-- ==== Sys2Proof/Word.lean ====
section
/-!
DEFINITION. Word.lean: the values of the core.
A command word is 8 bits (R49); every value that takes part in arithmetic is a bit (R5); a vector is an ordered
sequence of bits written element 0 first and a matrix the sequence of its rows (R11, R38). No rule reads a vector as
a number (91_not_in_source.md N14), so a vector is a list of bits and not a bit vector.
-/

namespace Sys2Proof

/-- One 8-bit command word `cw`, bit 0 the least significant (R11, R49). -/
abbrev Word := BitVec 8

/-- A bit, an element of GF(2): addition is XOR and multiplication is AND (R5). -/
abbrev Bit := Bool

/-- A vector of bits, element 0 first: `[1,1,0,1,0]` has 1 at index 0 (R11). -/
abbrev Vec := List Bit

/-- A matrix of bits, row 0 first; row `i` is the vector `[M[i][0], M[i][1], ..]` (R38). -/
abbrev Mat := List Vec

end Sys2Proof
end

