-- ==== Sys2Proof/Config.lean ====
section
/-!
DEFINITION. Config.lean: the one implementation parameter of the core (R4, decision D2).
The core has no free value: R7 says there is no source of non-determinism, and the contents the spec leaves open are
those of registers that hold no value, which no command reads (R36); the model holds them as absent.
-/

namespace Sys2Proof

/-- The parameter of one instance: the register width `N`, a positive number with no upper bound, which no command
changes (R4). The bound is part of the value, so `N = 0` cannot be written down. -/
structure Config where
  /-- N, the register width. -/
  n : Nat
  /-- N ≥ 1 (R4). -/
  n_pos : 0 < n
deriving DecidableEq, Repr

/-- The width of both of HW5's concrete scenarios, N = 5 (R4). DESIGN CHOICE: `State.reset` is the reset state of an
instance of this width (log entry 1); every statement about the model is made for every width. -/
def Config.scenario : Config := ⟨5, by decide⟩

end Sys2Proof
end

