-- ==== Sys2Proof/Syntax.lean ====
section
/-!
DEFINITION. Syntax.lean: the eleven commands of the set LMC-1, one constructor for each row of the opcode map (R54).
Operands have the type their field has in the command word (R51 to R53): SHIN carries one bit, LDMODE a token of four
bits. Every vector operand is implicit (R51): it is taken from the input shifter.
-/

namespace Sys2Proof

/-- A decoded command (R54). -/
inductive Instr where
  /-- NOP: nothing (R122). -/
  | nop
  /-- ICLR: clear the input shifter (R110). -/
  | iclr
  /-- SHIN b: shift the bit `b = cw[0]` into the input shifter (R52, R111). -/
  | shin (b : Bit)
  /-- LDTAPS: load the tap configuration from the input shifter (R74). -/
  | ldtaps
  /-- LDMODE m: select the mode by the token `m = cw[3:0]`, 0..15 (R53, R75). -/
  | ldmode (m : BitVec 4)
  /-- BUILD: build the transition matrix (R76). -/
  | build
  /-- LDSEED: load the seed from the input shifter and start a run (R82). -/
  | ldseed
  /-- LSTEP: one LFSR clock (R83). -/
  | lstep
  /-- MSTEP: one MISR clock (R96). -/
  | mstep
  /-- OLOAD: capture S into the output shifter (R115). -/
  | oload
  /-- SHOUT: shift one bit out of the output shifter (R116). -/
  | shout
deriving DecidableEq, Repr

/-- The mnemonic of a command, as the opcode map of R54 spells it. -/
def Instr.mnemonic : Instr → String
  | .nop => "NOP"
  | .iclr => "ICLR"
  | .shin _ => "SHIN"
  | .ldtaps => "LDTAPS"
  | .ldmode _ => "LDMODE"
  | .build => "BUILD"
  | .ldseed => "LDSEED"
  | .lstep => "LSTEP"
  | .mstep => "MSTEP"
  | .oload => "OLOAD"
  | .shout => "SHOUT"

end Sys2Proof
end

