-- ==== Sys2Proof/WellFormed.lean ====
section
/-!
DEFINITION. WellFormed.lean: the static checks.
A command of `Instr` is well formed as it stands: its operands have exactly the range their field admits (R52, R53),
so there is nothing left to check there. What does need a check is the shape of the operands that are vectors, which
the command word never holds (R51): HW5's contract for `build_matrix`, `generate` and `compress` (R70, R87, R100).
-/

namespace Sys2Proof

/-- Every command that can be written down is well formed: SHIN's operand is a bit (R52) and every token 0..15 decodes
as LDMODE (R53, R58). -/
def Instr.wellFormed : Instr → Bool
  | .nop => true
  | .iclr => true
  | .shin _ => true
  | .ldtaps => true
  | .ldmode _ => true
  | .build => true
  | .ldseed => true
  | .lstep => true
  | .mstep => true
  | .oload => true
  | .shout => true

/-- A tap configuration has N−1 elements (R70). -/
def wellFormedTaps (cfg : Config) (taps : Vec) : Bool := taps.length + 1 == cfg.n

/-- A seed has N elements (R87). -/
def wellFormedSeed (cfg : Config) (seed : Vec) : Bool := seed.length == cfg.n

/-- Every response vector has N elements (R100). -/
def wellFormedResponses (cfg : Config) (responses : List Vec) : Bool :=
  responses.all fun r => r.length == cfg.n

/-- A matrix of the core has N rows of N elements (R16). -/
def wellFormedMatrix (cfg : Config) (m : Mat) : Bool :=
  m.length == cfg.n && m.all fun row => row.length == cfg.n

end Sys2Proof
end

