-- ==== Sys2Proof/Decode.lean ====
section
/-!
DEFINITION. Decode.lean: the decoder, total on all 256 words (R59), and after it the encoder.
Both are written from the opcode map of R54 and the field layout of R50; a word that is not one of the 27 legal ones
is rejected under the name of the rule that makes it illegal (R55, R56, R57). Decoding reads the word alone: no state
changes how a word decodes (R60).
-/

namespace Sys2Proof

/-- Why a word is illegal (R55 to R57). -/
inductive IllegalWord where
  /-- Opcodes 0xB to 0xF are reserved, whatever the immediate (R55). -/
  | reservedOpcode
  /-- A class Z word whose `imm4` is not 0000 (R56). -/
  | nonzeroImmediate
  /-- A SHIN word with `cw[3:1]` not 000 (R57). -/
  | shinHighBits
deriving DecidableEq, Repr

/-- The field `opcode = cw[7:4]` (R50). -/
def opcodeField (cw : Word) : BitVec 4 := cw.extractLsb' 4 4

/-- The field `imm4 = cw[3:0]` (R50). -/
def immField (cw : Word) : BitVec 4 := cw.extractLsb' 0 4

/-- Class Z: no operand, so `imm4` must be 0000 (R51, R56). -/
def decodeClassZ (i : Instr) (cw : Word) : Except IllegalWord Instr :=
  if immField cw = 0#4 then .ok i else .error .nonzeroImmediate

/-- Class B: `imm4[0]` is the data bit and `imm4[3:1]` must be 000 (R51, R52, R57). -/
def decodeClassB (cw : Word) : Except IllegalWord Instr :=
  if cw.extractLsb' 1 3 = 0#3 then .ok (.shin (cw.getLsbD 0)) else .error .shinHighBits

/-- Class M: all four bits are the mode token, and every value decodes (R51, R53, R58). -/
def decodeClassM (cw : Word) : Except IllegalWord Instr := .ok (.ldmode (immField cw))

/-- The opcode map of R54, read by the opcode field. -/
def decode (cw : Word) : Except IllegalWord Instr :=
  match opcodeField cw with
  | 0x0#4 => decodeClassZ .nop cw
  | 0x1#4 => decodeClassZ .iclr cw
  | 0x2#4 => decodeClassB cw
  | 0x3#4 => decodeClassZ .ldtaps cw
  | 0x4#4 => decodeClassM cw
  | 0x5#4 => decodeClassZ .build cw
  | 0x6#4 => decodeClassZ .ldseed cw
  | 0x7#4 => decodeClassZ .lstep cw
  | 0x8#4 => decodeClassZ .mstep cw
  | 0x9#4 => decodeClassZ .oload cw
  | 0xA#4 => decodeClassZ .shout cw
  | _ => .error .reservedOpcode

/-- A stream of bytes: each command is exactly one word (R49), so the first byte is decoded and the rest returned;
nothing on an empty stream. -/
def decodeNext : List Word → Option (Except IllegalWord Instr × List Word)
  | [] => none
  | cw :: rest => some (decode cw, rest)

/-- A whole command stream, word by word (R49). -/
def decodeStream (cws : List Word) : List (Except IllegalWord Instr) := cws.map decode

/-- What the decoder reads from an instruction given by its bits in the numbering of the opcode table: one word of
eight bits, the bits from `nbits` on being 0. -/
def decodeTableWord (nbits w : Nat) : Option Instr :=
  match decode (BitVec.ofNat 8 (w % 2 ^ nbits)) with
  | .ok i => some i
  | .error _ => none

/-- A command word from its two fields (R50). -/
def assembleFields (opcode imm : BitVec 4) : Word := opcode ++ imm

/-- The word of a command, by the opcode map of R54. -/
def encode : Instr → Word
  | .nop => assembleFields 0x0#4 0x0#4
  | .iclr => assembleFields 0x1#4 0x0#4
  | .shin b => assembleFields 0x2#4 (if b then 0x1#4 else 0x0#4)
  | .ldtaps => assembleFields 0x3#4 0x0#4
  | .ldmode m => assembleFields 0x4#4 m
  | .build => assembleFields 0x5#4 0x0#4
  | .ldseed => assembleFields 0x6#4 0x0#4
  | .lstep => assembleFields 0x7#4 0x0#4
  | .mstep => assembleFields 0x8#4 0x0#4
  | .oload => assembleFields 0x9#4 0x0#4
  | .shout => assembleFields 0xA#4 0x0#4

/-- One row of the opcode map: the word `w` selects the row when `(w AND mask) = pattern` (R54). -/
structure OpcodeRow where
  mnemonic : String
  pattern : Word
  mask : Word
deriving DecidableEq, Repr

/-- The opcode map as R54 prints it: mnemonic, match, mask. It is not used by `decode`; that the two agree is a
statement. -/
def opcodeMap : List OpcodeRow :=
  [ ⟨"NOP", 0x00, 0xFF⟩,
    ⟨"ICLR", 0x10, 0xFF⟩,
    ⟨"SHIN", 0x20, 0xFE⟩,
    ⟨"LDTAPS", 0x30, 0xFF⟩,
    ⟨"LDMODE", 0x40, 0xF0⟩,
    ⟨"BUILD", 0x50, 0xFF⟩,
    ⟨"LDSEED", 0x60, 0xFF⟩,
    ⟨"LSTEP", 0x70, 0xFF⟩,
    ⟨"MSTEP", 0x80, 0xFF⟩,
    ⟨"OLOAD", 0x90, 0xFF⟩,
    ⟨"SHOUT", 0xA0, 0xFF⟩ ]

/-- `w` selects the row (R54). -/
def OpcodeRow.selects (r : OpcodeRow) (w : Word) : Bool := w &&& r.mask == r.pattern

end Sys2Proof
end

