-- ==== Sys2Proof/Machine/Gf2.lean ====
section
/-!
DEFINITION. Machine/Gf2.lean: the arithmetic of the core, over bits only (R5), each operation element by element as its
rule writes it. An index outside a vector or matrix is never used by a rule; the model reads 0 there so that the
operations are total.
-/

namespace Sys2Proof.Machine

/-- Element `i` of a vector, `v[i]` (R11). -/
def bitAt (v : Vec) (i : Nat) : Bit := v.getD i false

/-- The element in row `i` and column `j`, `M[i][j]` (R11). -/
def entry (m : Mat) (i j : Nat) : Bit := bitAt (m.getD i []) j

/-- The vector of length `k` with the given elements. -/
def mkVec (k : Nat) (f : Nat → Bit) : Vec := (List.range k).map f

/-- The n×n matrix with the given elements. -/
def mkMat (n : Nat) (f : Nat → Nat → Bit) : Mat := (List.range n).map fun i => mkVec n (f i)

/-- `XOR_{j=0}^{k-1} e(j)`, the sum mod 2 of the k bits; 0 over the empty range (R11). -/
def xorSum : Nat → (Nat → Bit) → Bit
  | 0, _ => false
  | k + 1, e => xorSum k e ^^ e k

/-- The transpose, `Mᵀ[i][j] = M[j][i]` (R11). -/
def transpose (n : Nat) (m : Mat) : Mat := mkMat n fun i j => entry m j i

/-- XOR of two vectors of equal length, element by element (R11). -/
def xorVec (a b : Vec) : Vec := List.zipWith Bool.xor a b

/-- The all-zero vector of length `k`. -/
def zeroVec (k : Nat) : Vec := List.replicate k false

/-- The matrix-vector product over GF(2): `w[i] = XOR_{j=0}^{n-1} (M[i][j] AND v[j])` (R81). -/
def matvec (n : Nat) (m : Mat) (v : Vec) : Vec :=
  mkVec n fun i => xorSum n fun j => entry m i j && bitAt v j

/-- `M^k·v`: `M^0·v = v` and `M^(k+1)·v = matvec(M, M^k·v)` (R105). -/
def matpow (n : Nat) (m : Mat) : Nat → Vec → Vec
  | 0, v => v
  | k + 1, v => matvec n m (matpow n m k v)

end Sys2Proof.Machine
end

