-- ==== Sys2Proof/Machine/State.lean ====
section
/-!
DEFINITION. Machine/State.lean: the state of one instance of the core, the reasons a step of the model can stop, and
the state after reset.
The sixteen fields in capitals are the sixteen rows of R13's table, in its order and under its names. Beside them stand
the two things R13 calls parameters of the step: the instance's width and the host's side of the ports (log entries
1 and 4).
-/

namespace Sys2Proof.Machine

/-- The matrix mode (R15): SHIFT is ONE_TO_MANY and bit 0, EXTERNAL is MANY_TO_ONE and bit 1 (R71). -/
inductive Mode where
  /-- 0: the matrix as built. -/
  | shift
  /-- 1: its transpose. -/
  | external
deriving DecidableEq, Repr

/-- The fault codes of R128 under their names; the numbers are in `Flags.lean`. -/
inductive ErrCode where
  /-- E_TAPS_LEN (R129). -/
  | tapsLen
  /-- E_SEED_LEN (R130). -/
  | seedLen
  /-- E_RESP_LEN (R131). -/
  | respLen
  /-- E_MODE (R132). -/
  | mode
  /-- E_ILLEGAL (R133). -/
  | illegal
  /-- E_SEQ (R134). -/
  | seq
deriving DecidableEq, Repr

/-- What the host can do to the core on its input ports (R31, R159): present one command word (`cmd_valid` with `cw`)
or request a reset (`rst`). -/
inductive HostAction where
  /-- `cmd_valid` with the word on `cw` (R121). -/
  | command (cw : Word)
  /-- `rst` (R146). -/
  | reset
deriving DecidableEq, Repr

/-- The registers that can hold no value (R34). -/
inductive ValueRegister where
  | taps
  | t
  | s
  | ibuf
  | obuf
deriving DecidableEq, Repr

/-- The state of one instance (R13), with the instance's width and the host actions still to come. -/
structure State where
  /-- The width N of this instance (R4). The model's own field: a parameter of the step that no step changes. -/
  cfg : Config
  /-- The tap configuration, N−1 bits; absent until the first successful LDTAPS (R14, R36). -/
  TAPS : Option Vec
  /-- The matrix mode the next BUILD will use (R15). -/
  MODE : Mode
  /-- The transition matrix, N×N bits; absent until the first successful BUILD (R16, R36). -/
  T : Option Mat
  /-- The matrix mode T was built with (R17). -/
  TM : Mode
  /-- The state vector, N bits; absent until the first successful LDSEED and again after every BUILD (R18, R36). -/
  S : Option Vec
  /-- TAPS holds a value (R19). -/
  KV : Bool
  /-- T holds a value (R20). -/
  TV : Bool
  /-- S holds a value, a run is in progress (R21). -/
  SV : Bool
  /-- A fault has been taken (R22). -/
  ERR : Bool
  /-- Which fault, three bits (R23). -/
  ERRCODE : BitVec 3
  /-- The input shifter's data: the positions that hold a value, first arrival first, a list of length min(ICNT, N)
  (R25). -/
  IBUF : Vec
  /-- Bits shifted in since the last clear, 0..N+1, saturating (R25). -/
  ICNT : Nat
  /-- The output shifter's data, N bits; absent until the first OLOAD (R26, R36). -/
  OBUF : Option Vec
  /-- Bits of OBUF still to be shifted out, 0..N (R27). -/
  OCNT : Nat
  /-- The state history of the current run, a record of what `q` emitted (R28). -/
  HIST : List Vec
  /-- Every bit emitted on `so` since reset, oldest first (R29). -/
  SOUT : List Bit
  /-- The host actions still to come, the next one first: the host's side of the ports `rst`, `cmd_valid` and `cw`
  (R8, R31). The model's own field, no state of the core. -/
  inputs : List HostAction
deriving DecidableEq, Repr

/-- N of this instance. -/
abbrev State.n (s : State) : Nat := s.cfg.n

/-- Why a step of the model stops. No fault of the core is one of these: a fault of the core is a next state with
ERR = 1 (R136). -/
inductive Fault where
  /-- Raised by LDTAPS, BUILD, LDSEED, LSTEP, MSTEP, OLOAD and SHOUT where they would read a register that holds no
  value although the flag or counter they checked says it holds one. By R36 no reachable state is of that kind, and
  the spec gives such a read no value (log entry 3). Safe: the model stops where the spec gives no effect. -/
  | noValue (r : ValueRegister)
deriving DecidableEq, Repr

/-- Why the model has no answer. -/
inductive Refusal where
  /-- Raised by an arm of `exec` whose instruction has no meaning yet; no arm is of that kind. Safe: the model stops. -/
  | notModelled (mnemonic : String)
deriving DecidableEq, Repr

/-- The outcome of a command or a step. -/
abbrev Result := Host.Outcome State Fault Refusal

/-- The reset state of an instance (R34, R146): flags and counters 0, MODE and TM SHIFT, traces empty, and TAPS, T, S,
IBUF and OBUF holding no value. -/
def State.resetOf (cfg : Config) : State where
  cfg := cfg
  TAPS := none
  MODE := .shift
  T := none
  TM := .shift
  S := none
  KV := false
  TV := false
  SV := false
  ERR := false
  ERRCODE := 0#3
  IBUF := []
  ICNT := 0
  OBUF := none
  OCNT := 0
  HIST := []
  SOUT := []
  inputs := []

/-- The machine right after reset, for the width of HW5's scenarios (log entry 1) and with no host action to come. -/
def State.reset : State := State.resetOf Config.scenario

end Sys2Proof.Machine
end

