-- ==== Sys2Proof/Machine/Flags.lean ====
section
/-!
DEFINITION. Machine/Flags.lean: the flags as bits. The core has no condition codes and no command sets a flag as a side
effect of arithmetic (R24); what stands here is the numbering of modes and fault codes and the STATUS view of R30.
-/

namespace Sys2Proof.Machine

/-- The bit that stands for a mode: 0 is SHIFT, 1 is EXTERNAL (R15). -/
def Mode.bit : Mode → Bit
  | .shift => false
  | .external => true

/-- The number of a fault code (R128). 0 means no fault and 7 is never produced. -/
def ErrCode.number : ErrCode → BitVec 3
  | .tapsLen => 1#3
  | .seedLen => 2#3
  | .respLen => 3#3
  | .mode => 4#3
  | .illegal => 5#3
  | .seq => 6#3

/-- A flag as one bit of a word. -/
def flagBit (b : Bit) : BitVec 1 := BitVec.ofBool b

/-- STATUS (R30): bits 7:5 ERRCODE, 4 ERR, 3 TM, 2 SV, 1 TV, 0 KV. It is a view of the flags and no storage. -/
def State.status (s : State) : BitVec 8 :=
  s.ERRCODE ++ (flagBit s.ERR ++ (flagBit s.TM.bit ++ (flagBit s.SV ++ (flagBit s.TV ++ flagBit s.KV))))

end Sys2Proof.Machine
end

