-- ==== Sys2Proof/Machine/Operands.lean ====
section
/-!
DEFINITION. Machine/Operands.lean: every operand form of the command set. SHIN's bit is used as it stands (R52);
LDMODE's token is read here (R53); the operand of LDTAPS, LDSEED and MSTEP is the vector in the input shifter (R51,
R109).
-/

namespace Sys2Proof.Machine

/-- The mode a token names: 0 is ONE_TO_MANY, 1 is MANY_TO_ONE, 2..15 are unrecognised, with no default (R53, R58). -/
def Mode.ofToken (m : BitVec 4) : Option Mode :=
  if m = 0#4 then some .shift else if m = 1#4 then some .external else none

/-- The token of a mode (R53). -/
def Mode.token : Mode → BitVec 4
  | .shift => 0#4
  | .external => 1#4

/-- The vector `IBUF[0..k-1]` in the input shifter, where exactly its first `k` positions hold a value (R25, R109). -/
def State.inputVector (s : State) (k : Nat) : Option Vec :=
  if s.IBUF.length = k then some s.IBUF else none

end Sys2Proof.Machine
end

