-- ==== Sys2Proof/Machine/Ops.lean ====
section
/-!
DEFINITION. Machine/Ops.lean: the named operations the meanings are built of: fault entry and reset, the checks in front
of a command, reading a register that may hold no value, and one write operation for each kind of write. All writes of
a command take effect together and every read sees the state before it (R11, R42), so each write operation is one
record update.
-/

namespace Sys2Proof.Machine

/-! ### Faults of the core, and reset -/

/-- Fault entry (R136): ERR <- 1 and ERRCODE <- the code, and nothing else. There is no handler, no vector and no saved
position, and no return from a fault (R138). -/
def State.takeFault (s : State) (c : ErrCode) : State := { s with ERR := true, ERRCODE := c.number }

/-- `raise Fault(c)`: the command ends with the effect of fault entry and no other (R11, R136). -/
def raise (c : ErrCode) (s : State) : Result := .next (s.takeFault c)

/-- The reset action (R146): one transition to the reset state of the instance, from any state, also with ERR = 1. N is
kept, and so is what the host has still to do, which is no state of the core. -/
def State.takeReset (s : State) : State := { State.resetOf s.cfg with inputs := s.inputs }

/-! ### The frame of a command -/

/-- Line 1 of the step (R121): while ERR = 1 a command word changes nothing and raises nothing (R137). -/
def unlessFaulted (s : State) (command : Result) : Result := if s.ERR then .next s else command

/-- A check of a command's pseudocode: where it fails its fault is raised and the command stops (R121 line 3). -/
def require (ok : Bool) (c : ErrCode) (s : State) (rest : Result) : Result := if ok then rest else raise c s

/-- The read of a register that can hold no value (R36). -/
def need {α : Type} (r : ValueRegister) (x : Option α) (rest : α → Result) : Result :=
  match x with
  | some a => rest a
  | none => .fault (.noValue r)

/-! ### Writes -/

/-- ICNT <- 0: every position of IBUF now holds no value (R110). -/
def State.clearInput (s : State) : State := { s with IBUF := [], ICNT := 0 }

/-- One bit arrives at the input shifter (R111): it is stored at index ICNT while there is room, and otherwise dropped,
the counter saturating at N+1. -/
def State.shiftIn (s : State) (b : Bit) : State :=
  if s.ICNT < s.n then { s with IBUF := s.IBUF ++ [b], ICNT := s.ICNT + 1 }
  else if s.ICNT = s.n then { s with ICNT := s.n + 1 }
  else s

/-- TAPS <- v, KV <- 1 (R74). -/
def State.loadTaps (s : State) (v : Vec) : State := { s with TAPS := some v, KV := true }

/-- MODE <- m (R75). -/
def State.setMode (s : State) (m : Mode) : State := { s with MODE := m }

/-- T <- M, TM <- the mode it was built in, TV <- 1; any run ends, SV <- 0, and S holds no value (R76). -/
def State.installMatrix (s : State) (m : Mat) (tm : Mode) : State :=
  { s with T := some m, TM := tm, TV := true, SV := false, S := none }

/-- S <- v, SV <- 1, HIST <- [v]: a run starts (R82). -/
def State.startRun (s : State) (v : Vec) : State := { s with S := some v, SV := true, HIST := [v] }

/-- S <- v, HIST <- HIST ++ [v]: the run advances by one step (R83, R96). -/
def State.advance (s : State) (v : Vec) : State := { s with S := some v, HIST := s.HIST ++ [v] }

/-- OBUF <- v, OCNT <- N (R115). -/
def State.capture (s : State) (v : Vec) : State := { s with OBUF := some v, OCNT := s.n }

/-- The output shifter moves one place toward index 0 and emits the bit `b` that stood there: SOUT <- SOUT ++ [b], 0
enters at the top, OCNT <- OCNT − 1 (R116). -/
def State.shiftOut (s : State) (b : Bit) (rest : Vec) : State :=
  { s with SOUT := s.SOUT ++ [b], OBUF := some (rest ++ [false]), OCNT := s.OCNT - 1 }

/-- The next state of an outcome, if it is one. -/
def nextState : Result → Option State
  | .next s => some s
  | .fault _ => none
  | .refused _ => none

end Sys2Proof.Machine
end

