-- ==== Sys2Proof/Machine/Matrix.lean ====
section
/-!
DEFINITION. Machine/Matrix.lean: the transition matrix builder (40_matrix_builder.md): the function `build_matrix` and the
commands LDTAPS, LDMODE and BUILD.
-/

namespace Sys2Proof.Machine

/-- The tap vector `t = [1] ++ taps`; the leading 1 is hardwired (R67). -/
def tapVector (taps : Vec) : Vec := true :: taps

/-- The canonical matrix (R68): the last column is the tap vector, the sub-diagonal is ones, everything else is 0. -/
def canon (n : Nat) (taps : Vec) : Mat :=
  mkMat n fun i j =>
    if j = n - 1 then bitAt (tapVector taps) i
    else if i > 0 ∧ j = i - 1 then true
    else false

/-- `build_matrix(n, taps, mode)` (R69): the canonical matrix in mode SHIFT, its transpose in mode EXTERNAL. -/
def buildMatrix (n : Nat) (taps : Vec) (mode : Mode) : Mat :=
  match mode with
  | .shift => canon n taps
  | .external => transpose n (canon n taps)

/-- LDTAPS (R74): TAPS <- the N−1 bits in the input shifter, KV <- 1, ICNT <- 0. The guard is written without a
subtraction: N−1 = ICNT, as N ≥ 1. -/
def execLdtaps (s : State) : Result :=
  unlessFaulted s <|
  require (s.ICNT + 1 == s.n) .tapsLen s <|
  need .ibuf (s.inputVector (s.n - 1)) fun v =>
  .next (s.loadTaps v).clearInput

/-- LDMODE m (R75): MODE <- m for the tokens 0 and 1, E_MODE for every other. -/
def execLdmode (m : BitVec 4) (s : State) : Result :=
  unlessFaulted s <|
  match Mode.ofToken m with
  | some mode => .next (s.setMode mode)
  | none => raise .mode s

/-- BUILD (R76): T <- build_matrix(N, TAPS, MODE), TM <- MODE, TV <- 1, SV <- 0. -/
def execBuild (s : State) : Result :=
  unlessFaulted s <|
  require s.KV .seq s <|
  need .taps s.TAPS fun taps =>
  .next (s.installMatrix (buildMatrix s.n taps s.MODE) s.MODE)

end Sys2Proof.Machine
end

