-- ==== Sys2Proof/Machine/Generator.lean ====
section
/-!
DEFINITION. Machine/Generator.lean: the LFSR test pattern generator (41_lfsr_generator.md): the commands LDSEED and LSTEP.
-/

namespace Sys2Proof.Machine

/-- LDSEED (R82): with a matrix built and exactly N bits in the input shifter, S <- those bits, SV <- 1, HIST restarts
with the seed as element 0, ICNT <- 0. -/
def execLdseed (s : State) : Result :=
  unlessFaulted s <|
  require s.TV .seq s <|
  require (s.ICNT == s.n) .seedLen s <|
  need .ibuf (s.inputVector s.n) fun v =>
  .next (s.startRun v).clearInput

/-- LSTEP (R83): S <- matvec(T, S), reading the old S, and the new vector is appended to HIST. -/
def execLstep (s : State) : Result :=
  unlessFaulted s <|
  require s.SV .seq s <|
  need .t s.T fun m =>
  need .s s.S fun v =>
  .next (s.advance (matvec s.n m v))

end Sys2Proof.Machine
end

