-- ==== Sys2Proof/Machine/Shifter.lean ====
section
/-!
DEFINITION. Machine/Shifter.lean: the serial-to-parallel and parallel-to-serial shift logic (43_serial_shift_logic.md): the
commands ICLR, SHIN, OLOAD and SHOUT.
-/

namespace Sys2Proof.Machine

/-- ICLR (R110): ICNT <- 0. It never faults. -/
def execIclr (s : State) : Result := unlessFaulted s <| .next s.clearInput

/-- SHIN b (R111): one bit into the input shifter; overflow is recorded in ICNT and is no fault. -/
def execShin (b : Bit) (s : State) : Result := unlessFaulted s <| .next (s.shiftIn b)

/-- OLOAD (R115): OBUF <- S, OCNT <- N. -/
def execOload (s : State) : Result :=
  unlessFaulted s <|
  require s.SV .seq s <|
  need .s s.S fun v =>
  .next (s.capture v)

/-- SHOUT (R116): emit OBUF[0], shift toward index 0, 0 entering at index N−1, OCNT <- OCNT − 1. -/
def execShout (s : State) : Result :=
  unlessFaulted s <|
  require (s.OCNT != 0) .seq s <|
  need .obuf s.OBUF fun v =>
  match v with
  | b :: rest => .next (s.shiftOut b rest)
  | [] => .fault (.noValue .obuf)

end Sys2Proof.Machine
end

