-- ==== Sys2Proof/Machine/Signature.lean ====
section
/-!
DEFINITION. Machine/Signature.lean: the MISR signature analyzer (42_misr_analyzer.md): the command MSTEP.
-/

namespace Sys2Proof.Machine

/-- MSTEP (R96): with a run in progress on a SHIFT matrix and exactly N bits in the input shifter,
S <- matvec(T, S) XOR response, the new vector is appended to HIST, ICNT <- 0. -/
def execMstep (s : State) : Result :=
  unlessFaulted s <|
  require (s.SV && s.TM == .shift) .seq s <|
  require (s.ICNT == s.n) .respLen s <|
  need .t s.T fun m =>
  need .s s.S fun v =>
  need .ibuf (s.inputVector s.n) fun r =>
  .next (s.advance (xorVec (matvec s.n m v) r)).clearInput

end Sys2Proof.Machine
end

