-- ==== Sys2Proof/Machine/System.lean ====
section
/-!
DEFINITION. Machine/System.lean: NOP and the illegal words (44_system_commands.md). The command set has no control
transfer, no environment call, no privileged command and no register access (R124, R126).
-/

namespace Sys2Proof.Machine

/-- NOP (R122): it changes no state and appends to no trace, in every state. -/
def execNop (s : State) : Result := unlessFaulted s <| .next s

/-- An illegal word (R123): E_ILLEGAL with ERR = 0, nothing with ERR = 1. -/
def execIllegal (s : State) : Result := unlessFaulted s <| raise .illegal s

end Sys2Proof.Machine
end

