-- ==== Sys2Proof/Machine/Dispatch.lean ====
section
/-!
DEFINITION. Machine/Dispatch.lean: the meaning of each command (R121 line 3).
-/

namespace Sys2Proof.Machine

def exec (i : Instr) (s : State) : Host.Outcome State Fault Refusal :=
  match i with
  | .nop => Sys2Proof.Machine.execNop s
  | .iclr => Sys2Proof.Machine.execIclr s
  | .shin b => Sys2Proof.Machine.execShin b s
  | .ldtaps => Sys2Proof.Machine.execLdtaps s
  | .ldmode m => Sys2Proof.Machine.execLdmode m s
  | .build => Sys2Proof.Machine.execBuild s
  | .ldseed => Sys2Proof.Machine.execLdseed s
  | .lstep => Sys2Proof.Machine.execLstep s
  | .mstep => Sys2Proof.Machine.execMstep s
  | .oload => Sys2Proof.Machine.execOload s
  | .shout => Sys2Proof.Machine.execShout s

end Sys2Proof.Machine
end

