-- ==== Sys2Proof/Machine/Fetch.lean ====
section
/-!
DEFINITION. Machine/Fetch.lean: what the core does with one host action. The core does not fetch commands, it has no
program counter and no stored program (R32, R47): the host presents a word and the core executes it (R121).
-/

namespace Sys2Proof.Machine

/-- `Step(cw)` of R121: decode the word by R54; an illegal word raises E_ILLEGAL, a legal one runs its command. Line 1,
no change while ERR = 1, stands in front of every meaning (`unlessFaulted`). -/
def executeWord (cw : Word) (s : State) : Result :=
  match decode cw with
  | .ok i => exec i s
  | .error _ => execIllegal s

/-- One host action: a command word is executed (R121), a reset request is taken (R146). -/
def executeAction (a : HostAction) (s : State) : Result :=
  match a with
  | .command cw => executeWord cw s
  | .reset => .next s.takeReset

/-- The next host action and the state without it, if there is one. -/
def State.nextAction (s : State) : Option (HostAction × State) :=
  match s.inputs with
  | [] => none
  | a :: rest => some (a, { s with inputs := rest })

/-- The state in which the host presents the word before everything else it has still to do. -/
def State.present (s : State) (cw : Word) : State := { s with inputs := .command cw :: s.inputs }

end Sys2Proof.Machine
end

