-- ==== Sys2Proof/Machine/Step.lean ====
section
/-!
DEFINITION. Machine/Step.lean: one step of the machine, and the placing of a word where the next step reads it.
-/

namespace Sys2Proof.Machine

/-- One step: the next host action is performed; with none, `cmd_valid` is low, and the core, which does nothing
between commands, stays as it is (R121, 93_implementation_defined.md U15). -/
def step (s : State) : Host.Outcome State Fault Refusal :=
  match s.nextAction with
  | none => .next s
  | some (a, s') => executeAction a s'

/-- `s` with the word of the opcode table's numbering presented by the host as its next action, so that the next step
executes it (log entry 4). -/
def State.withFetchWord (s : State) (nbits w : Nat) : State := s.present (BitVec.ofNat 8 (w % 2 ^ nbits))

end Sys2Proof.Machine
end

