-- ==== Sys2Proof/Machine/Pseudo.lean ====
section
/-!
DEFINITION. Machine/Pseudo.lean: the pseudo-commands of R62 to R66 and their expansions, and how the host issues a sequence
of commands.
-/

namespace Sys2Proof.Machine

/-- A line of a command stream: a command, or a pseudo-command that stands for several. -/
inductive Pseudo where
  /-- A command itself (R61). -/
  | command (i : Instr)
  /-- VEC v (R62). -/
  | vec (v : Vec)
  /-- TAPS v (R63). -/
  | taps (v : Vec)
  /-- SEED v (R63). -/
  | seed (v : Vec)
  /-- RESP v (R63). -/
  | resp (v : Vec)
  /-- LSTEPS k (R64). -/
  | lsteps (k : Nat)
  /-- READOUT (R64). -/
  | readout
  /-- GENERATE taps seed count mode (R65), the mode by its token. -/
  | generate (taps seed : Vec) (count : Int) (token : BitVec 4)
  /-- COMPRESS taps seed responses (R66). -/
  | compress (taps seed : Vec) (responses : List Vec)
deriving DecidableEq, Repr

/-- `VEC v`: ICLR, then one SHIN for each element, element 0 first (R62). -/
def vecCommands (v : Vec) : List Instr := .iclr :: v.map Instr.shin

/-- `TAPS v` (R63). -/
def tapsCommands (v : Vec) : List Instr := vecCommands v ++ [.ldtaps]

/-- `SEED v` (R63). -/
def seedCommands (v : Vec) : List Instr := vecCommands v ++ [.ldseed]

/-- `RESP v` (R63). -/
def respCommands (v : Vec) : List Instr := vecCommands v ++ [.mstep]

/-- `LSTEPS k` (R64). -/
def lstepsCommands (k : Nat) : List Instr := List.replicate k .lstep

/-- `READOUT` for an instance of width `n` (R64). -/
def readoutCommands (n : Nat) : List Instr := .oload :: List.replicate n .shout

/-- `GENERATE taps seed count mode`; for count ≤ 0 it expands to nothing (R65). -/
def generateCommands (taps seed : Vec) (count : Int) (token : BitVec 4) : List Instr :=
  if count ≤ 0 then []
  else tapsCommands taps ++ [.ldmode token, .build] ++ seedCommands seed ++ lstepsCommands (count - 1).toNat

/-- `COMPRESS taps seed responses`, with `LDMODE ONE_TO_MANY` (R66). -/
def compressCommands (taps seed : Vec) (responses : List Vec) : List Instr :=
  tapsCommands taps ++ [.ldmode 0#4, .build] ++ seedCommands seed ++ (responses.map respCommands).flatten

/-- The commands a line stands for, in a program for an instance of width `n`. -/
def Pseudo.expand (n : Nat) : Pseudo → List Instr
  | .command i => [i]
  | .vec v => vecCommands v
  | .taps v => tapsCommands v
  | .seed v => seedCommands v
  | .resp v => respCommands v
  | .lsteps k => lstepsCommands k
  | .readout => readoutCommands n
  | .generate t s count token => generateCommands t s count token
  | .compress t s responses => compressCommands t s responses

/-- The state in which the host is about to issue the given commands, in that order, before everything else it has
still to do. -/
def State.issue (s : State) (commands : List Instr) : State :=
  { s with inputs := commands.map (fun i => HostAction.command (encode i)) ++ s.inputs }

end Sys2Proof.Machine
end

