-- ==== Sys2Proof/Machine/Assembler.lean ====
section
/-!
DEFINITION. Machine/Assembler.lean: the textual form of a command stream (R61). One command per line, the mnemonic in
capitals, operands separated by blanks, `;` starting a comment, and `.width N` at the head of the program. What R61
leaves open (blanks, numerals, what is no line) is settled in log entry 11.
-/

namespace Sys2Proof.Machine

/-- A piece of a line. -/
inductive Token where
  | word (w : List Char)
  | openBracket
  | closeBracket
  | comma
deriving DecidableEq, Repr

/-- The word read so far, if there is one, in front of the tokens that follow it. -/
def endWord (acc : List Char) (rest : List Token) : List Token :=
  if acc.isEmpty then rest else .word acc.reverse :: rest

/-- The tokens of one line; `acc` is the word being read, reversed. A comment ends the line. -/
def lexLine : List Char → List Char → List Token
  | [], acc => endWord acc []
  | c :: cs, acc =>
    if c = ';' then endWord acc []
    else if c = ' ' ∨ c = '\t' ∨ c = '\r' then endWord acc (lexLine cs [])
    else if c = '[' then endWord acc (.openBracket :: lexLine cs [])
    else if c = ']' then endWord acc (.closeBracket :: lexLine cs [])
    else if c = ',' then endWord acc (.comma :: lexLine cs [])
    else lexLine cs (c :: acc)

/-- The lines of a text; `acc` is the line being read, reversed. -/
def splitLines : List Char → List Char → List (List Char)
  | [], acc => [acc.reverse]
  | c :: cs, acc => if c = '\n' then acc.reverse :: splitLines cs [] else splitLines cs (c :: acc)

/-- The value of a decimal digit. -/
def digitValue (c : Char) : Option Nat :=
  if 48 ≤ c.toNat ∧ c.toNat ≤ 57 then some (c.toNat - 48) else none

/-- A decimal numeral read from its most significant digit, continuing from `acc`. -/
def readDigits : List Char → Nat → Option Nat
  | [], acc => some acc
  | c :: cs, acc =>
    match digitValue c with
    | some d => readDigits cs (10 * acc + d)
    | none => none

/-- A natural number in decimal, at least one digit. -/
def readNat (w : List Char) : Option Nat := if w.isEmpty then none else readDigits w 0

/-- An integer in decimal, a minus sign allowed. -/
def readInt (w : List Char) : Option Int :=
  match w with
  | '-' :: ds => (readNat ds).map fun k => -(k : Int)
  | _ => (readNat w).map fun k => (k : Int)

/-- A bit: 0 or 1 (R61, R145). -/
def readBit (w : List Char) : Option Bit :=
  if w = ['0'] then some false else if w = ['1'] then some true else none

/-- The name of a mode (R61). -/
def readModeName (w : List Char) : Option (BitVec 4) :=
  if w = "ONE_TO_MANY".toList then some Mode.shift.token
  else if w = "MANY_TO_ONE".toList then some Mode.external.token
  else none

/-- The operand of LDMODE: a name, or a number 0..15 (R61). -/
def readToken (w : List Char) : Option (BitVec 4) :=
  match readModeName w with
  | some m => some m
  | none =>
    match readNat w with
    | some k => if k < 16 then some (BitVec.ofNat 4 k) else none
    | none => none

/-- The elements of a vector that is not empty, up to its closing bracket. -/
def parseElements : List Token → Option (Vec × List Token)
  | .word w :: .closeBracket :: rest => (readBit w).map fun b => ([b], rest)
  | .word w :: .comma :: rest =>
    match readBit w, parseElements rest with
    | some b, some (v, rest') => some (b :: v, rest')
    | _, _ => none
  | _ => none

/-- A vector `[b0,b1,...,bk-1]`, k ≥ 0. -/
def parseVec : List Token → Option (Vec × List Token)
  | .openBracket :: .closeBracket :: rest => some ([], rest)
  | .openBracket :: rest => parseElements rest
  | _ => none

/-- The vectors of a list of vectors that is not empty, up to its closing bracket. The first argument bounds their
number. -/
def parseVecElements : Nat → List Token → Option (List Vec × List Token)
  | 0, _ => none
  | fuel + 1, ts =>
    match parseVec ts with
    | some (v, .closeBracket :: rest) => some ([v], rest)
    | some (v, .comma :: rest) => (parseVecElements fuel rest).map fun p => (v :: p.1, p.2)
    | _ => none

/-- A list of vectors `[r0, r1, ..., rm-1]`, m ≥ 0. -/
def parseVecs : List Token → Option (List Vec × List Token)
  | .openBracket :: .closeBracket :: rest => some ([], rest)
  | .openBracket :: rest => parseVecElements rest.length rest
  | _ => none

/-- The commands that take no operand in the word. -/
def plainCommands : List Instr :=
  [.nop, .iclr, .ldtaps, .build, .ldseed, .lstep, .mstep, .oload, .shout]

/-- An operand that is one vector and ends the line. -/
def oneVec (make : Vec → Pseudo) (args : List Token) : Option Pseudo :=
  match parseVec args with
  | some (v, []) => some (make v)
  | _ => none

/-- The operands of GENERATE (R65). -/
def parseGenerate (args : List Token) : Option Pseudo :=
  match parseVec args with
  | some (taps, args') =>
    match parseVec args' with
    | some (seed, [.word count, .word mode]) =>
      match readInt count, readModeName mode with
      | some k, some m => some (.generate taps seed k m)
      | _, _ => none
    | _ => none
  | none => none

/-- The operands of COMPRESS (R66). -/
def parseCompress (args : List Token) : Option Pseudo :=
  match parseVec args with
  | some (taps, args') =>
    match parseVec args' with
    | some (seed, args'') =>
      match parseVecs args'' with
      | some (responses, []) => some (.compress taps seed responses)
      | _ => none
    | none => none
  | none => none

/-- A line that begins with the word `w` and goes on with `args` (R61 to R66). -/
def parseCommand (w : List Char) (args : List Token) : Option Pseudo :=
  match plainCommands.find? fun i => i.mnemonic.toList == w with
  | some i => if args.isEmpty then some (.command i) else none
  | none =>
    if w = "SHIN".toList then
      match args with
      | [.word b] => (readBit b).map fun b => .command (.shin b)
      | _ => none
    else if w = "LDMODE".toList then
      match args with
      | [.word m] => (readToken m).map fun m => .command (.ldmode m)
      | _ => none
    else if w = "LSTEPS".toList then
      match args with
      | [.word k] => (readNat k).map Pseudo.lsteps
      | _ => none
    else if w = "READOUT".toList then if args.isEmpty then some .readout else none
    else if w = "VEC".toList then oneVec .vec args
    else if w = "TAPS".toList then oneVec .taps args
    else if w = "SEED".toList then oneVec .seed args
    else if w = "RESP".toList then oneVec .resp args
    else if w = "GENERATE".toList then parseGenerate args
    else if w = "COMPRESS".toList then parseCompress args
    else none

/-- A whole program: the width of its `.width` directive, if it has one, and the commands of its lines in order. -/
structure Assembly where
  width : Option Nat
  commands : List Instr
deriving DecidableEq, Repr

/-- The commands of one line. READOUT takes N from the directive (R64), so without one it is refused. -/
def assembleItem (width : Option Nat) (p : Pseudo) : Option (List Instr) :=
  match p, width with
  | .readout, none => none
  | .readout, some n => some (Pseudo.expand n .readout)
  | p, _ => some (p.expand 0)

/-- The commands of the lines after the head of the program. -/
def assembleLines (width : Option Nat) : List (List Token) → Option (List Instr)
  | [] => some []
  | [] :: lines => assembleLines width lines
  | (.word w :: args) :: lines =>
    match (parseCommand w args).bind (assembleItem width), assembleLines width lines with
    | some cs, some rest => some (cs ++ rest)
    | _, _ => none
  | _ :: _ => none

/-- A program from its lines: blank lines, then the directive if there is one, then the rest (R61). -/
def assembleProgram : List (List Token) → Option Assembly
  | [] => some ⟨none, []⟩
  | [] :: lines => assembleProgram lines
  | ([.word w, .word k]) :: lines =>
    if w = ".width".toList then
      match readNat k with
      | some n =>
        if n = 0 then none else (assembleLines (some n) lines).map fun cs => ⟨some n, cs⟩
      | none => none
    else (assembleLines none ([.word w, .word k] :: lines)).map fun cs => ⟨none, cs⟩
  | line :: lines => (assembleLines none (line :: lines)).map fun cs => ⟨none, cs⟩

/-- The program a text stands for; `none` where a line is no line of R61 to R66. -/
def assemble (text : List Char) : Option Assembly :=
  assembleProgram ((splitLines text []).map fun l => lexLine l [])

/-- The command words of a program (R54). -/
def Assembly.words (a : Assembly) : List Word := a.commands.map encode

/-- The textual form of one command (R61). -/
def Instr.text : Instr → List Char
  | .shin b => "SHIN ".toList ++ [if b then '1' else '0']
  | .ldmode m => "LDMODE ".toList ++ Nat.toDigits 10 m.toNat
  | .nop => Instr.nop.mnemonic.toList
  | .iclr => Instr.iclr.mnemonic.toList
  | .ldtaps => Instr.ldtaps.mnemonic.toList
  | .build => Instr.build.mnemonic.toList
  | .ldseed => Instr.ldseed.mnemonic.toList
  | .lstep => Instr.lstep.mnemonic.toList
  | .mstep => Instr.mstep.mnemonic.toList
  | .oload => Instr.oload.mnemonic.toList
  | .shout => Instr.shout.mnemonic.toList

/-- The textual form of a command stream, one command per line (R61). -/
def programText (is : List Instr) : List Char := (is.map fun i => Instr.text i ++ ['\n']).flatten

end Sys2Proof.Machine
end

