-- ==== Sys2Proof/Machine/Instances.lean ====
section
/-!
DEFINITION. Machine/Instances.lean: several instances of the core (R9). They share no state: a system of instances is a list
of states, and a schedule says which instance performs its next host action.
-/

namespace Sys2Proof.Machine

/-- One step of one instance; where the model stops, the instance stays as it is. -/
def State.stepAlone (s : State) : State := (nextState (step s)).getD s

/-- The instance with the given number performs a step; the others are not touched (R9). -/
def stepInstance (sys : List State) (k : Nat) : List State := sys.modify k State.stepAlone

/-- The instances perform steps in the order of a schedule, one of the interleavings of R48. -/
def runSchedule : List Nat → List State → List State
  | [], sys => sys
  | k :: ks, sys => runSchedule ks (stepInstance sys k)

end Sys2Proof.Machine
end

