-- ==== Sys2Proof/Machine/Ports.lean ====
section
/-!
DEFINITION. Machine/Ports.lean: the output ports of R31 (`status` is in Flags.lean). Reading a port changes nothing (R43),
so each is a function of the state; where a port carries unspecified bits (93_implementation_defined.md U1) the view is
absent. The pulses of `q_stb` and `so_stb` belong to the execution of a command, so they are functions of the command
and the state it is executed in.
-/

namespace Sys2Proof.Machine

/-- Port `q`: `q[i] = S[i]` (R39), holding a value only while SV = 1 (R31). -/
def State.q (s : State) : Option Vec := if s.SV then s.S else none

/-- Port `tmat`: bit `i*N + j` is `T[i][j]` (R39), holding a value only while TV = 1 (R31). -/
def State.tmat (s : State) : Option Vec :=
  if s.TV then s.T.map fun m => mkVec (s.n * s.n) fun k => entry m (k / s.n) (k % s.n) else none

/-- Port `err`: ERR (R31). -/
def State.err (s : State) : Bit := s.ERR

/-- What the execution of a command leaves if it takes no fault. -/
def completed (r : Result) : Option State :=
  match nextState r with
  | some t => if t.ERR then none else some t
  | none => none

/-- The vector driven on `q` with a pulse of `q_stb` when command `i` is executed in `s`: the new S of a successful
LDSEED, LSTEP or MSTEP (R28, R82, R83, R96). -/
def qPulse (i : Instr) (s : State) : Option Vec :=
  match i with
  | .ldseed => (completed (exec i s)).bind State.S
  | .lstep => (completed (exec i s)).bind State.S
  | .mstep => (completed (exec i s)).bind State.S
  | .nop => none
  | .iclr => none
  | .shin _ => none
  | .ldtaps => none
  | .ldmode _ => none
  | .build => none
  | .oload => none
  | .shout => none

/-- The bit driven on `so` with a pulse of `so_stb` when command `i` is executed in `s`: the bit that stood at OBUF[0]
before a successful SHOUT (R29, R116). -/
def soPulse (i : Instr) (s : State) : Option Bit :=
  match i with
  | .shout => (completed (exec i s)).bind fun _ => s.OBUF.bind List.head?
  | .nop => none
  | .iclr => none
  | .shin _ => none
  | .ldtaps => none
  | .ldmode _ => none
  | .build => none
  | .ldseed => none
  | .lstep => none
  | .mstep => none
  | .oload => none

end Sys2Proof.Machine
end

