-- ==== Sys2Proof/Machine/Run.lean ====
section
/-!
DEFINITION. Machine/Run.lean: several steps of one instance, in the order the host performs its actions (R45).
-/

namespace Sys2Proof.Machine

/-- `k` steps, stopping at the first outcome that is no next state. -/
def run : Nat → State → Result
  | 0, s => .next s
  | k + 1, s =>
    match step s with
    | .next t => run k t
    | .fault r => .fault r
    | .refused r => .refused r

end Sys2Proof.Machine
end

