-- ==== Sys2Proof/Machine/RunLevel.lean ====
section
/-!
DEFINITION. Machine/RunLevel.lean: HW5's run-level functions `generate` and `compress` as mathematical functions (R3), the
signature, and the run-level outcome of a core at the end of a command sequence (R141). Every element of every argument
is a bit by its type (R145, log entry 12).
-/

namespace Sys2Proof.Machine

/-- The outcome of a run-level function: a state history or the single outcome ConfigError, which carries no code and no
sequence (R87, R100). -/
inductive RunResult where
  | configError
  | history (h : List Vec)
deriving DecidableEq, Repr

/-- `state[i]` of `generate`: `state[0] = seed`, `state[i] = matvec(M, state[i-1])` (R86). -/
def lfsrState (n : Nat) (m : Mat) (seed : Vec) : Nat → Vec
  | 0 => seed
  | i + 1 => matvec n m (lfsrState n m seed i)

/-- `[state[0], .., state[count-1]]` of `generate` (R86). -/
def lfsrHistory (n : Nat) (m : Mat) (seed : Vec) (count : Nat) : List Vec :=
  (List.range count).map (lfsrState n m seed)

/-- `state[i]` of `compress`: `state[0] = seed`, `state[i] = matvec(M, state[i-1]) XOR responses[i-1]` (R99). -/
def misrState (n : Nat) (m : Mat) (seed : Vec) (responses : List Vec) : Nat → Vec
  | 0 => seed
  | i + 1 => xorVec (matvec n m (misrState n m seed responses i)) (responses.getD i [])

/-- `[state[0], .., state[m]]` of `compress`, m the number of responses (R99). -/
def misrHistory (n : Nat) (m : Mat) (seed : Vec) (responses : List Vec) : List Vec :=
  (List.range (responses.length + 1)).map (misrState n m seed responses)

/-- `generate(n, taps, seed, count, mode)` (R86). The argument checks come before the count is looked at (R87); valid
arguments with count ≤ 0 give the empty sequence (R88). The mode is given by its token, as LDMODE takes it (R53). -/
def generate (cfg : Config) (taps seed : Vec) (count : Int) (token : BitVec 4) : RunResult :=
  if taps.length + 1 ≠ cfg.n then .configError
  else if seed.length ≠ cfg.n then .configError
  else match Mode.ofToken token with
    | none => .configError
    | some mode =>
      if count ≤ 0 then .history []
      else .history (lfsrHistory cfg.n (buildMatrix cfg.n taps mode) seed count.toNat)

/-- `compress(n, taps, seed, responses)` (R99). All checks precede all computation, and a bad vector anywhere in the
responses makes the whole result ConfigError (R100). -/
def compress (cfg : Config) (taps seed : Vec) (responses : List Vec) : RunResult :=
  if taps.length + 1 ≠ cfg.n then .configError
  else if seed.length ≠ cfg.n then .configError
  else if responses.any (fun r => r.length != cfg.n) then .configError
  else .history (misrHistory cfg.n (buildMatrix cfg.n taps .shift) seed responses)

/-- The signature: the final element of the history (R102). -/
def RunResult.signature : RunResult → Option Vec
  | .configError => none
  | .history h => h.getLast?

/-- The run-level outcome of a core at the end of a command sequence (R141): a faulted run has no result, whatever HIST
holds. -/
def State.runOutcome (s : State) : RunResult := if s.ERR then .configError else .history s.HIST

end Sys2Proof.Machine
end

