-- ==== Sys2Proof/Safety.lean ====
section
/-!
DEFINITION. Safety.lean: what a reachable state of the core looks like, in the terms the statements use (R35, R36).
-/

namespace Sys2Proof.Machine

/-- The invariants of R35 and R36. A state of which this holds is called coherent: its valid flags and counters say the
truth about which registers hold a value, and every value has the width of its register. -/
structure State.Inv (s : State) : Prop where
  /-- KV says whether TAPS holds a value (R14, R19). -/
  kv_taps : s.KV = s.TAPS.isSome
  /-- TAPS has N−1 bits (R14). -/
  taps_length : ∀ v, s.TAPS = some v → v.length + 1 = s.n
  /-- TV says whether T holds a value (R16, R20). -/
  tv_t : s.TV = s.T.isSome
  /-- T is what `build_matrix` gives for some tap configuration in mode TM (R35 (e)). -/
  t_built : ∀ m, s.T = some m → ∃ taps : Vec, taps.length + 1 = s.n ∧ m = buildMatrix s.n taps s.TM
  /-- SV says whether S holds a value (R18, R21). -/
  sv_s : s.SV = s.S.isSome
  /-- S has N bits (R18). -/
  s_length : ∀ v, s.S = some v → v.length = s.n
  /-- SV = 1 implies TV = 1 (R35 (a)). -/
  sv_tv : s.SV = true → s.TV = true
  /-- TV = 1 implies KV = 1 (R35 (b)). -/
  tv_kv : s.TV = true → s.KV = true
  /-- ICNT ≤ N+1 (R35 (c)). -/
  icnt_le : s.ICNT ≤ s.n + 1
  /-- Exactly the first min(ICNT, N) positions of IBUF hold a value (R25). -/
  ibuf_length : s.IBUF.length = min s.ICNT s.n
  /-- OCNT ≤ N (R35 (c)). -/
  ocnt_le : s.OCNT ≤ s.n
  /-- OBUF has N bits (R26). -/
  obuf_length : ∀ v, s.OBUF = some v → v.length = s.n
  /-- With bits still to be shifted out, OBUF holds a value (R36). -/
  ocnt_obuf : s.OCNT ≠ 0 → s.OBUF.isSome = true
  /-- ERR = 0 implies ERRCODE = 0 (R35 (d)). -/
  no_err_code : s.ERR = false → s.ERRCODE = 0#3
  /-- ERR = 1 implies ERRCODE in 1..6 (R35 (d)). -/
  err_code : s.ERR = true → 1 ≤ s.ERRCODE.toNat ∧ s.ERRCODE.toNat ≤ 6
  /-- While a run is in progress the last element of HIST is S (R28, R35 (f)). -/
  hist_last : s.SV = true → s.HIST.getLast? = s.S
  /-- Every element of HIST has N bits (R35 (g)). -/
  hist_length : ∀ v ∈ s.HIST, v.length = s.n

/-- The fault a command meets, by the tables of R128 and R134 and in the order of R135 (first the sequence check, then
the operand check); 0 where it meets none. It is the spec's table, written apart from the meanings; that they agree is a
statement. -/
def commandFault (i : Instr) (s : State) : BitVec 3 :=
  match i with
  | .nop => 0#3
  | .iclr => 0#3
  | .shin _ => 0#3
  | .ldtaps => if s.ICNT ≠ s.n - 1 then 1#3 else 0#3
  | .ldmode m => if 2 ≤ m.toNat then 4#3 else 0#3
  | .build => if s.KV = false then 6#3 else 0#3
  | .ldseed => if s.TV = false then 6#3 else if s.ICNT ≠ s.n then 2#3 else 0#3
  | .lstep => if s.SV = false then 6#3 else 0#3
  | .mstep => if s.SV = false ∨ s.TM = .external then 6#3 else if s.ICNT ≠ s.n then 3#3 else 0#3
  | .oload => if s.SV = false then 6#3 else 0#3
  | .shout => if s.OCNT = 0 then 6#3 else 0#3

/-- The fault a command word meets: E_ILLEGAL comes before everything else (R135). -/
def wordFault (cw : Word) (s : State) : BitVec 3 :=
  match decode cw with
  | .error _ => 5#3
  | .ok i => commandFault i s

end Sys2Proof.Machine
end

