-- ==== Sys2Proof/Certificates/Slice0/Obligations.lean ====
section
/-!
DEFINITION. Obligations.lean: the statements. Each is about every width N and, unless it says otherwise, about every state;
each docstring names the rule it formalises. A vector or matrix that a command computes is described element by element,
as the rules write it, and not by the model's own function for it.
-/

open Sys2Proof Sys2Proof.Machine

/-! ### Encoding -/

/-- Encoding and decoding agree on every well-formed command, with every operand. -/
def Obligations.DecodeAfterEncode : Prop :=
  ∀ i : Instr, i.wellFormed = true → decode (encode i) = .ok i

/-- Each legal word has one meaning: it is the word of the command it decodes to. -/
def Obligations.EncodeAfterDecode : Prop :=
  ∀ (cw : Word) (i : Instr), decode cw = .ok i → encode i = cw

/-- The decoder is the opcode map of R54: a word that selects a row decodes to that row's command, a word that decodes
selects its command's row, and no word selects two rows. The operands are the fields of R52 and R53. -/
def Obligations.DecoderIsTheOpcodeMap : Prop :=
  (∀ (cw : Word) (r : OpcodeRow), r ∈ opcodeMap → r.selects cw = true →
      ∃ i, decode cw = .ok i ∧ i.mnemonic = r.mnemonic) ∧
  (∀ (cw : Word) (i : Instr), decode cw = .ok i →
      ∃ r ∈ opcodeMap, r.selects cw = true ∧ r.mnemonic = i.mnemonic) ∧
  (∀ (cw : Word) (r r' : OpcodeRow), r ∈ opcodeMap → r' ∈ opcodeMap →
      r.selects cw = true → r'.selects cw = true → r = r') ∧
  (∀ (cw : Word) (b : Bit), decode cw = .ok (.shin b) → b = cw.getLsbD 0) ∧
  (∀ (cw : Word) (m : BitVec 4), decode cw = .ok (.ldmode m) → m.toNat = cw.toNat % 16)

/-- R55, R56, R57, R58: which words are illegal, and by which rule. -/
def Obligations.IllegalWordsByRule : Prop :=
  ∀ cw : Word,
    (0xB0 ≤ cw.toNat → decode cw = .error .reservedOpcode) ∧
    (cw.toNat < 0xB0 → cw.toNat / 16 ≠ 2 → cw.toNat / 16 ≠ 4 → cw.toNat % 16 ≠ 0 →
      decode cw = .error .nonzeroImmediate) ∧
    (0x22 ≤ cw.toNat → cw.toNat ≤ 0x2F → decode cw = .error .shinHighBits) ∧
    (0x40 ≤ cw.toNat → cw.toNat ≤ 0x4F → decode cw = .ok (.ldmode (BitVec.ofNat 4 (cw.toNat - 0x40))))

/-- R54, R59: of the 256 words 27 are legal, 80 are reserved, 135 are class Z words with an immediate and 14 are SHIN
words with high bits. -/
def Obligations.WordCounts : Prop :=
  let words := (List.range 256).map (BitVec.ofNat 8)
  (words.filter fun w => (decode w).toOption.isSome).length = 27 ∧
  (words.filter fun w => decode w = .error .reservedOpcode).length = 80 ∧
  (words.filter fun w => decode w = .error .nonzeroImmediate).length = 135 ∧
  (words.filter fun w => decode w = .error .shinHighBits).length = 14

/-- Words written out bit by bit from R50 and the opcode map of R54. -/
def Obligations.WrittenOutWordsDecode : Prop :=
  decode 0b00000000#8 = .ok .nop ∧
  decode 0b00010000#8 = .ok .iclr ∧
  decode 0b00100001#8 = .ok (.shin true) ∧
  decode 0b00110000#8 = .ok .ldtaps ∧
  decode 0b01001101#8 = .ok (.ldmode 13#4) ∧
  decode 0b01010000#8 = .ok .build ∧
  decode 0b10000000#8 = .ok .mstep ∧
  decode 0b10100000#8 = .ok .shout ∧
  decode 0b01011010#8 = .error .nonzeroImmediate ∧
  decode 0b11000011#8 = .error .reservedOpcode

/-- The assembler reads the textual form of a command stream back as that stream (R61; what the rule
leaves open about text is the model's choice, log entry 11). -/
def Obligations.AssemblerReadsItsText : Prop :=
  ∀ is : List Instr, assemble (programText is) = some ⟨none, is⟩

/-! ### The step -/

/-- A step runs the decoded command: the host's next action (log entry 4) is used up, and nothing else is added around
`exec`; an illegal word and a reset request are run the same way. -/
def Obligations.StepRunsTheDecodedCommand : Prop :=
  (∀ (s : State) (cw : Word) (rest : List HostAction) (i : Instr),
    s.inputs = .command cw :: rest → decode cw = .ok i → step s = exec i { s with inputs := rest }) ∧
  (∀ (s : State) (cw : Word) (rest : List HostAction),
    s.inputs = .command cw :: rest → step s = executeWord cw { s with inputs := rest }) ∧
  (∀ (s : State) (rest : List HostAction),
    s.inputs = .reset :: rest → step s = executeAction .reset { s with inputs := rest })

/-- R123: an illegal word raises E_ILLEGAL, code 5, with ERR = 0 and does nothing with ERR = 1. -/
def Obligations.IllegalWordRaisesIllegal : Prop :=
  ∀ (s : State) (cw : Word) (e : IllegalWord), decode cw = .error e →
    (s.ERR = false → executeWord cw s = .next { s with ERR := true, ERRCODE := 5#3 }) ∧
    (s.ERR = true → executeWord cw s = .next s)

/-- With no host action the core's state does not change (93_implementation_defined.md U15). That the model's step then
answers the same state as its next state, where the core takes no step at all, is the model's choice (log entry 4). -/
def Obligations.NoActionChangesNothing : Prop :=
  ∀ s : State, s.inputs = [] → step s = .next s

/-- R34: the reset state of an instance of any width. -/
def Obligations.ResetStateHoldsNoValues : Prop :=
  ∀ cfg : Config,
    let t := State.resetOf cfg
    t.TAPS = none ∧ t.MODE = .shift ∧ t.T = none ∧ t.TM = .shift ∧ t.S = none ∧
    t.KV = false ∧ t.TV = false ∧ t.SV = false ∧ t.ERR = false ∧ t.ERRCODE = 0#3 ∧
    t.IBUF = [] ∧ t.ICNT = 0 ∧ t.OBUF = none ∧ t.OCNT = 0 ∧ t.HIST = [] ∧ t.SOUT = [] ∧
    t.status = 0x00#8

/-- R146: reset may be taken in any state, also with ERR = 1, leads to the reset state of R34 and keeps N; it is the only
action that has an effect while ERR = 1. No field of the state before it stands in the state after it but N. -/
def Obligations.ResetActionForgetsEverything : Prop :=
  (∀ s : State, ∃ t, executeAction .reset s = .next t ∧ t.cfg = s.cfg ∧
    t.TAPS = none ∧ t.MODE = .shift ∧ t.T = none ∧ t.TM = .shift ∧ t.S = none ∧
    t.KV = false ∧ t.TV = false ∧ t.SV = false ∧ t.ERR = false ∧ t.ERRCODE = 0#3 ∧
    t.IBUF = [] ∧ t.ICNT = 0 ∧ t.OBUF = none ∧ t.OCNT = 0 ∧ t.HIST = [] ∧ t.SOUT = []) ∧
  (∀ (s : State) (a : HostAction), s.ERR = true → executeAction a s ≠ .next s → a = .reset)

/-- R137: while ERR = 1 every command, and every word, legal or illegal, leaves the whole state unchanged. -/
def Obligations.FaultedStateAbsorbs : Prop :=
  (∀ (i : Instr) (s : State), s.ERR = true → exec i s = .next s) ∧
  (∀ (s : State) (cw : Word), s.ERR = true → executeWord cw s = .next s)

/-- R136: a command word that takes a fault changes ERR and ERRCODE and nothing else, and the fault shows on the ports
`err` and `status`. -/
def Obligations.FaultWritesOnlyErrAndCode : Prop :=
  ∀ (s t : State) (cw : Word), s.ERR = false → executeWord cw s = .next t → t.ERR = true →
    ∃ c : BitVec 3, 1 ≤ c.toNat ∧ c.toNat ≤ 6 ∧ t = { s with ERR := true, ERRCODE := c } ∧
      t.err = true ∧ t.status.getLsbD 4 = true ∧ t.status.extractLsb' 5 3 = c

/-- R129 to R135: exactly when a command word faults, and with which code, by the tables of R128 and R134; while ERR = 1
nothing is raised. -/
def Obligations.FaultTableIsExact : Prop :=
  (∀ (s : State) (cw : Word), s.ERR = false →
    (wordFault cw s ≠ 0#3 → executeWord cw s = .next { s with ERR := true, ERRCODE := wordFault cw s }) ∧
    (wordFault cw s = 0#3 → ∀ t, executeWord cw s = .next t → t.ERR = false ∧ t.ERRCODE = s.ERRCODE)) ∧
  (∀ (s : State) (cw : Word), s.ERR = true → ∀ t, executeWord cw s = .next t → t.ERRCODE = s.ERRCODE)

/-! ### What each command does -/

/-- R122: NOP changes no state, in every state. -/
def Obligations.NopChangesNothing : Prop :=
  decode 0x00#8 = .ok .nop ∧ ∀ s : State, exec .nop s = .next s

/-- R110: ICLR empties the input shifter and changes nothing else. -/
def Obligations.IclrClearsInputShifter : Prop :=
  decode 0x10#8 = .ok .iclr ∧
  ∀ s : State, s.ERR = false → exec .iclr s = .next { s with IBUF := [], ICNT := 0 }

/-- R111: SHIN stores the bit at index ICNT while there is room, records the overflow once, and then drops bits. -/
def Obligations.ShinShiftsBitIn : Prop :=
  decode 0x20#8 = .ok (.shin false) ∧ decode 0x21#8 = .ok (.shin true) ∧
  ∀ (s : State) (b : Bit), s.ERR = false →
    (s.ICNT < s.n → exec (.shin b) s = .next { s with IBUF := s.IBUF ++ [b], ICNT := s.ICNT + 1 }) ∧
    (s.ICNT = s.n → exec (.shin b) s = .next { s with ICNT := s.n + 1 }) ∧
    (s.ICNT = s.n + 1 → exec (.shin b) s = .next s)

/-- R74: LDTAPS. The vector in the input shifter is `IBUF[0..ICNT-1]`, of which every position holds a value. -/
def Obligations.LdtapsLoadsTaps : Prop :=
  decode 0x30#8 = .ok .ldtaps ∧
  ∀ s : State, s.ERR = false →
    (s.ICNT ≠ s.n - 1 → exec .ldtaps s = .next { s with ERR := true, ERRCODE := 1#3 }) ∧
    (s.ICNT = s.n - 1 → s.IBUF.length = s.ICNT →
      exec .ldtaps s = .next { s with TAPS := some s.IBUF, KV := true, IBUF := [], ICNT := 0 })

/-- R75: LDMODE takes the tokens 0 and 1 and faults E_MODE on every other. -/
def Obligations.LdmodeSelectsMode : Prop :=
  (∀ m : BitVec 4, decode (0x4#4 ++ m) = .ok (.ldmode m)) ∧
  ∀ (s : State) (m : BitVec 4), s.ERR = false →
    (m.toNat = 0 → exec (.ldmode m) s = .next { s with MODE := .shift }) ∧
    (m.toNat = 1 → exec (.ldmode m) s = .next { s with MODE := .external }) ∧
    (2 ≤ m.toNat → exec (.ldmode m) s = .next { s with ERR := true, ERRCODE := 4#3 })

/-- R76 with R67, R68 and R69: BUILD writes all N×N bits of T, the canonical matrix in mode SHIFT and its transpose in
mode EXTERNAL, and ends any run. -/
def Obligations.BuildWritesMatrix : Prop :=
  decode 0x50#8 = .ok .build ∧
  ∀ s : State, s.ERR = false →
    (s.KV = false → exec .build s = .next { s with ERR := true, ERRCODE := 6#3 }) ∧
    (s.KV = true → ∀ taps, s.TAPS = some taps →
      ∃ m : Mat,
        exec .build s = .next { s with T := some m, TM := s.MODE, TV := true, SV := false, S := none } ∧
        wellFormedMatrix s.cfg m = true ∧
        ∀ i j, i < s.n → j < s.n →
          let c : Nat → Nat → Bit := fun i j =>
            if j + 1 = s.n then (if i = 0 then true else bitAt taps (i - 1)) else decide (i = j + 1)
          entry m i j = (match s.MODE with | .shift => c i j | .external => c j i))

/-- R82: LDSEED loads the seed, drives it on `q` and starts a run. -/
def Obligations.LdseedStartsRun : Prop :=
  decode 0x60#8 = .ok .ldseed ∧
  ∀ s : State, s.ERR = false →
    (s.TV = false → exec .ldseed s = .next { s with ERR := true, ERRCODE := 6#3 }) ∧
    (s.TV = true → s.ICNT ≠ s.n → exec .ldseed s = .next { s with ERR := true, ERRCODE := 2#3 }) ∧
    (s.TV = true → s.ICNT = s.n → s.IBUF.length = s.ICNT →
      exec .ldseed s =
        .next { s with S := some s.IBUF, SV := true, HIST := [s.IBUF], IBUF := [], ICNT := 0 } ∧
      qPulse .ldseed s = some s.IBUF)

/-- R83 with R81: LSTEP, every bit of the new S computed from the old S. -/
def Obligations.LstepAdvancesState : Prop :=
  decode 0x70#8 = .ok .lstep ∧
  ∀ s : State, s.ERR = false →
    (s.SV = false → exec .lstep s = .next { s with ERR := true, ERRCODE := 6#3 }) ∧
    (s.SV = true → ∀ m v, s.T = some m → s.S = some v →
      ∃ w : Vec,
        exec .lstep s = .next { s with S := some w, HIST := s.HIST ++ [w] } ∧
        qPulse .lstep s = some w ∧
        w.length = s.n ∧
        ∀ i < s.n, bitAt w i = xorSum s.n fun j => entry m i j && bitAt v j)

/-- R96: MSTEP, the matrix-vector product of R81 with the response XORed in element by element. -/
def Obligations.MstepInjectsResponse : Prop :=
  decode 0x80#8 = .ok .mstep ∧
  ∀ s : State, s.ERR = false →
    (s.SV = false ∨ s.TM = .external → exec .mstep s = .next { s with ERR := true, ERRCODE := 6#3 }) ∧
    (s.SV = true → s.TM = .shift → s.ICNT ≠ s.n →
      exec .mstep s = .next { s with ERR := true, ERRCODE := 3#3 }) ∧
    (s.SV = true → s.TM = .shift → s.ICNT = s.n → s.IBUF.length = s.ICNT →
      ∀ m v, s.T = some m → s.S = some v →
      ∃ w : Vec,
        exec .mstep s = .next { s with S := some w, HIST := s.HIST ++ [w], IBUF := [], ICNT := 0 } ∧
        qPulse .mstep s = some w ∧
        w.length = s.n ∧
        ∀ i < s.n, bitAt w i = ((xorSum s.n fun j => entry m i j && bitAt v j) ^^ bitAt s.IBUF i))

/-- R115: OLOAD takes a snapshot of S. -/
def Obligations.OloadCapturesState : Prop :=
  decode 0x90#8 = .ok .oload ∧
  ∀ s : State, s.ERR = false →
    (s.SV = false → exec .oload s = .next { s with ERR := true, ERRCODE := 6#3 }) ∧
    (s.SV = true → ∀ v, s.S = some v → exec .oload s = .next { s with OBUF := some v, OCNT := s.n })

/-- R116: SHOUT emits OBUF[0] and shifts toward index 0, 0 entering at index N−1. -/
def Obligations.ShoutEmitsBit : Prop :=
  decode 0xA0#8 = .ok .shout ∧
  ∀ s : State, s.ERR = false →
    (s.OCNT = 0 → exec .shout s = .next { s with ERR := true, ERRCODE := 6#3 }) ∧
    (s.OCNT ≠ 0 → ∀ v, s.OBUF = some v → v.length = s.n →
      ∃ w : Vec,
        exec .shout s =
          .next { s with SOUT := s.SOUT ++ [bitAt v 0], OBUF := some w, OCNT := s.OCNT - 1 } ∧
        soPulse .shout s = some (bitAt v 0) ∧
        w.length = s.n ∧ (∀ k, k + 1 < s.n → bitAt w k = bitAt v (k + 1)) ∧ bitAt w (s.n - 1) = false)

/-! ### What each command leaves unchanged -/

/-- The frame of every command: each register changes only by the commands R14 to R29 name as its writers, and the
width and the host's actions change by none. -/
def Obligations.RegistersChangeOnlyByTheirWriters : Prop :=
  ∀ (i : Instr) (s t : State), exec i s = .next t →
    t.cfg = s.cfg ∧ t.inputs = s.inputs ∧
    (i ≠ .ldtaps → t.TAPS = s.TAPS ∧ t.KV = s.KV) ∧
    ((∀ m, i ≠ .ldmode m) → t.MODE = s.MODE) ∧
    (i ≠ .build → t.T = s.T ∧ t.TM = s.TM ∧ t.TV = s.TV) ∧
    (i ≠ .build → i ≠ .ldseed → i ≠ .lstep → i ≠ .mstep → t.S = s.S) ∧
    (i ≠ .build → i ≠ .ldseed → t.SV = s.SV) ∧
    (i ≠ .iclr → (∀ b, i ≠ .shin b) → i ≠ .ldtaps → i ≠ .ldseed → i ≠ .mstep →
      t.IBUF = s.IBUF ∧ t.ICNT = s.ICNT) ∧
    (i ≠ .oload → i ≠ .shout → t.OBUF = s.OBUF ∧ t.OCNT = s.OCNT) ∧
    (i ≠ .ldseed → i ≠ .lstep → i ≠ .mstep → t.HIST = s.HIST) ∧
    (i ≠ .shout → t.SOUT = s.SOUT) ∧
    (i = .nop ∨ i = .iclr ∨ (∃ b, i = .shin b) → t.ERR = s.ERR ∧ t.ERRCODE = s.ERRCODE) ∧
    (s.KV = true → t.KV = true) ∧ (s.TV = true → t.TV = true) ∧ (s.ERR = true → t.ERR = true)

/-- R112: nothing but SHIN, ICLR and a consuming command that succeeds changes the input shifter. -/
def Obligations.InputShifterHasFiveWriters : Prop :=
  ∀ (i : Instr) (s t : State), exec i s = .next t → t.IBUF ≠ s.IBUF ∨ t.ICNT ≠ s.ICNT →
    i = .iclr ∨ (∃ b, i = .shin b) ∨ ((i = .ldtaps ∨ i = .ldseed ∨ i = .mstep) ∧ t.ERR = false)

/-- The traces record exactly the pulses of `q_stb` and `so_stb` (R28, R29): LDSEED restarts HIST with the seed, every
other pulse of `q_stb` appends one vector, and each pulse of `so_stb` appends one bit to SOUT. -/
def Obligations.TracesRecordThePulses : Prop :=
  ∀ (i : Instr) (s t : State), exec i s = .next t →
    (t.HIST = match qPulse i s with
      | none => s.HIST
      | some v => if i = .ldseed then [v] else s.HIST ++ [v]) ∧
    t.SOUT = s.SOUT ++ (soPulse i s).toList

/-- R150: only BUILD writes T, and BUILD alone leaves no run in progress (SV cleared), so T does not change during a run; SV
is set by a successful LDSEED and by nothing else. -/
def Obligations.MatrixIsFixedDuringRun : Prop :=
  ∀ (i : Instr) (s t : State), exec i s = .next t →
    (s.SV = true → t.SV = true → t.T = s.T ∧ t.TM = s.TM) ∧
    (s.SV = true → t.SV = false → i = .build) ∧
    (s.SV = false → t.SV = true → i = .ldseed ∧ t.HIST.length = 1)

/-- R43: a second NOP, ICLR, LDMODE, OLOAD or BUILD changes nothing. -/
def Obligations.FiveCommandsAreIdempotent : Prop :=
  ∀ (i : Instr) (s t : State),
    i = .nop ∨ i = .iclr ∨ (∃ m, i = .ldmode m) ∨ i = .oload ∨ i = .build →
    exec i s = .next t → exec i t = .next t

/-- R77: what BUILD writes to T depends on N, TAPS and MODE and on nothing else. -/
def Obligations.BuildDependsOnTapsAndMode : Prop :=
  ∀ s s' t t' : State,
    s.cfg = s'.cfg → s.TAPS = s'.TAPS → s.MODE = s'.MODE →
    exec .build s = .next t → exec .build s' = .next t' → t.ERR = false → t'.ERR = false → t.T = t'.T

/-! ### Invariants -/

/-- The reset state of every width is coherent, and so is the state the fixed name `State.reset` holds,
whose width is the model's choice (log entry 1). -/
def Obligations.ResetIsCoherent : Prop :=
  (∀ cfg : Config, (State.resetOf cfg).Inv) ∧ State.reset.Inv

/-- R35: every step, whatever the host does, keeps a coherent state coherent. -/
def Obligations.StepKeepsCoherence : Prop :=
  ∀ s t : State, s.Inv → step s = .next t → t.Inv

/-- R36 and R121: in a coherent state no command reads a register that holds no value, so every step, whatever the host
does, has a next state; the stop this rules out is the model's own (log entry 3). -/
def Obligations.CoherentStepNeverStops : Prop :=
  ∀ s : State, s.Inv → ∃ t, step s = .next t

/-- R35, R36 and R160: from reset, for every width, every sequence of k host actions takes k steps, stops nowhere and
leaves a coherent state. That the host's actions stand in the state as a list is the model's choice (log entry 4). -/
def Obligations.RunFromResetIsCoherent : Prop :=
  ∀ (cfg : Config) (actions : List HostAction),
    ∃ t, Machine.run actions.length { State.resetOf cfg with inputs := actions } = .next t ∧
      t.Inv ∧ t.inputs = [] ∧ t.cfg = cfg

/-! ### Ports and status -/

/-- R30: the layout of STATUS. -/
def Obligations.StatusShowsTheFlags : Prop :=
  ∀ s : State,
    s.status.getLsbD 0 = s.KV ∧ s.status.getLsbD 1 = s.TV ∧ s.status.getLsbD 2 = s.SV ∧
    s.status.getLsbD 3 = decide (s.TM = .external) ∧ s.status.getLsbD 4 = s.ERR ∧
    ∀ k < 3, s.status.getLsbD (5 + k) = s.ERRCODE.getLsbD k

/-- R31 and R39: `q` carries S while SV = 1, `tmat` carries T row by row while TV = 1, and `err` is bit 4 of STATUS; a
port that holds no value is absent (log entry 8). -/
def Obligations.PortsShowTheState : Prop :=
  ∀ s : State,
    (s.SV = true → s.q = s.S) ∧ (s.SV = false → s.q = none) ∧ (s.TV = false → s.tmat = none) ∧
    s.err = s.status.getLsbD 4 ∧
    (∀ m, s.TV = true → s.T = some m → ∃ bits : Vec, s.tmat = some bits ∧ bits.length = s.n * s.n ∧
      ∀ i j, i < s.n → j < s.n → bitAt bits (i * s.n + j) = entry m i j)

/-! ### The transition matrix and the step it defines -/

/-- R72: the shape facts of the canonical matrix and its transpose; (e) every vector has exactly one vector that steps
to it. -/
def Obligations.MatrixShapeFacts : Prop :=
  (∀ (n : Nat) (taps : Vec) (mode : Mode), taps.length + 1 = n →
    (buildMatrix n taps mode).flatten.count true = (n - 1) + 1 + taps.count true) ∧
  (∀ mode : Mode, buildMatrix 1 [] mode = [[true]]) ∧
  (∀ (b : Bit) (mode : Mode), buildMatrix 2 [b] mode = [[false, true], [true, b]]) ∧
  (∀ (n : Nat) (taps : Vec), taps.length + 1 = n →
    (∀ j < n, entry (buildMatrix n taps .shift) 0 j = decide (j = n - 1)) ∧
    (2 ≤ n → ∀ i < n, entry (buildMatrix n taps .shift) i 0 = decide (i = 1))) ∧
  (∀ (n : Nat) (taps : Vec) (mode : Mode) (w : Vec), taps.length + 1 = n → w.length = n →
    ∃ v : Vec, v.length = n ∧ matvec n (buildMatrix n taps mode) v = w ∧
      ∀ v' : Vec, v'.length = n → matvec n (buildMatrix n taps mode) v' = w → v' = v)

/-- R84: one step with a SHIFT matrix. -/
def Obligations.ShiftStepClosedForm : Prop :=
  ∀ (n : Nat) (taps v : Vec), taps.length + 1 = n → v.length = n →
    bitAt (matvec n (buildMatrix n taps .shift) v) 0 = bitAt v (n - 1) ∧
    ∀ i, 1 ≤ i → i < n →
      bitAt (matvec n (buildMatrix n taps .shift) v) i =
        (bitAt v (i - 1) ^^ (bitAt taps (i - 1) && bitAt v (n - 1)))

/-- R85: one step with an EXTERNAL matrix. -/
def Obligations.ExternalStepClosedForm : Prop :=
  ∀ (n : Nat) (taps v : Vec), taps.length + 1 = n → v.length = n →
    (∀ i, i + 1 < n → bitAt (matvec n (buildMatrix n taps .external) v) i = bitAt v (i + 1)) ∧
    bitAt (matvec n (buildMatrix n taps .external) v) (n - 1) =
      (bitAt v 0 ^^ xorSum (n - 1) fun j => bitAt taps j && bitAt v (j + 1))

/-- R97: one MISR step in closed form, for the command: with a matrix built in mode SHIFT and N bits in the input
shifter, what MSTEP leaves in S. -/
def Obligations.MisrStepClosedForm : Prop :=
  ∀ (s : State) (taps v : Vec),
    s.ERR = false → s.SV = true → s.TM = .shift → taps.length + 1 = s.n →
    s.T = some (buildMatrix s.n taps .shift) → s.S = some v → v.length = s.n →
    s.ICNT = s.n → s.IBUF.length = s.n →
    ∃ w : Vec, exec .mstep s = .next { s with S := some w, HIST := s.HIST ++ [w], IBUF := [], ICNT := 0 } ∧
      w.length = s.n ∧
      bitAt w 0 = (bitAt v (s.n - 1) ^^ bitAt s.IBUF 0) ∧
      ∀ i, 1 ≤ i → i < s.n →
        bitAt w i =
          ((bitAt v (i - 1) ^^ (bitAt taps (i - 1) && bitAt v (s.n - 1))) ^^ bitAt s.IBUF i)

/-- R90 (c): the step is linear over GF(2), for every matrix. -/
def Obligations.StepIsLinear : Prop :=
  ∀ (n : Nat) (m : Mat) (a b : Vec), a.length = n → b.length = n →
    matvec n m (xorVec a b) = xorVec (matvec n m a) (matvec n m b)

/-- R93: the all-zero state is a fixed point of the step for every matrix, and so for every tap configuration in both
modes: a register seeded with zeros generates zeros for ever, and LSTEP leaves it as it is. -/
def Obligations.ZeroStateIsFixed : Prop :=
  (∀ (n : Nat) (m : Mat) (k : Nat), lfsrState n m (zeroVec n) k = zeroVec n) ∧
  (∀ (s : State) (m : Mat), s.ERR = false → s.SV = true → s.T = some m → s.S = some (zeroVec s.n) →
    exec .lstep s = .next { s with HIST := s.HIST ++ [zeroVec s.n] })

/-- R94: the step can be undone, by the two formulas of the rule, so no two different states step to the same state. -/
def Obligations.StepCanBeUndone : Prop :=
  ∀ (n : Nat) (taps v : Vec), taps.length + 1 = n → v.length = n →
    (let w := matvec n (buildMatrix n taps .shift) v
     bitAt v (n - 1) = bitAt w 0 ∧
     ∀ i, 1 ≤ i → i < n → bitAt v (i - 1) = (bitAt w i ^^ (bitAt taps (i - 1) && bitAt w 0))) ∧
    (let w := matvec n (buildMatrix n taps .external) v
     (∀ i, i + 1 < n → bitAt v (i + 1) = bitAt w i) ∧
     bitAt v 0 = (bitAt w (n - 1) ^^ xorSum (n - 1) fun j => bitAt taps j && bitAt w j)) ∧
    (∀ (mode : Mode) (v' : Vec), v'.length = n →
      matvec n (buildMatrix n taps mode) v = matvec n (buildMatrix n taps mode) v' → v = v')

/-- R94: every history is purely periodic: the seed recurs, and it is the first state to recur. -/
def Obligations.HistoryIsPurelyPeriodic : Prop :=
  ∀ (n : Nat) (taps seed : Vec) (mode : Mode), taps.length + 1 = n → seed.length = n →
    ∃ p, 0 < p ∧ lfsrState n (buildMatrix n taps mode) seed p = seed ∧
      ∀ i j, i < j → j < p →
        lfsrState n (buildMatrix n taps mode) seed i ≠ lfsrState n (buildMatrix n taps mode) seed j

/-- R92: for N = 1 the step changes nothing, in both modes. -/
def Obligations.WidthOneNeverChanges : Prop :=
  (∀ (mode : Mode) (b : Bit), buildMatrix 1 [] mode = [[true]] ∧ matvec 1 (buildMatrix 1 [] mode) [b] = [b]) ∧
  (∀ (cfg : Config) (mode : Mode) (b : Bit) (k : Nat), cfg.n = 1 →
    generate cfg [] [b] k mode.token = .history (List.replicate k [b])) ∧
  (∀ (s : State) (mode : Mode) (b : Bit), s.n = 1 → s.ERR = false → s.SV = true →
    s.T = some (buildMatrix 1 [] mode) → s.S = some [b] →
    exec .lstep s = .next { s with HIST := s.HIST ++ [[b]] })

/-! ### The run-level functions and the signature -/

/-- R86, R87, R88, R99, R100: what `generate` and `compress` give: ConfigError for a bad argument, whatever the count;
the empty sequence for count ≤ 0; and otherwise the history that starts with the seed and goes on by the step formula.
That `generate` takes its mode as LDMODE's token, the tokens from 2 on standing for every mode HW5 does not know, is the
model's choice (log entry 12). -/
def Obligations.RunLevelFunctionsMeetTheirContracts : Prop :=
  (∀ (cfg : Config) (taps seed : Vec) (count : Int) (token : BitVec 4),
    generate cfg taps seed count token = .configError ↔
      taps.length + 1 ≠ cfg.n ∨ seed.length ≠ cfg.n ∨ 2 ≤ token.toNat) ∧
  (∀ (cfg : Config) (taps seed : Vec) (count : Int) (mode : Mode),
    taps.length + 1 = cfg.n → seed.length = cfg.n →
    (count ≤ 0 → generate cfg taps seed count mode.token = .history []) ∧
    (1 ≤ count → ∃ h, generate cfg taps seed count mode.token = .history h ∧
      h.length = count.toNat ∧ h[0]? = some seed ∧
      ∀ i, i + 1 < count.toNat →
        h[i + 1]? = h[i]?.map fun x => matvec cfg.n (buildMatrix cfg.n taps mode) x)) ∧
  (∀ (cfg : Config) (taps seed : Vec) (responses : List Vec),
    compress cfg taps seed responses = .configError ↔
      taps.length + 1 ≠ cfg.n ∨ seed.length ≠ cfg.n ∨ ∃ r ∈ responses, r.length ≠ cfg.n) ∧
  (∀ (cfg : Config) (taps seed : Vec) (responses : List Vec),
    taps.length + 1 = cfg.n → seed.length = cfg.n → (∀ r ∈ responses, r.length = cfg.n) →
    ∃ h, compress cfg taps seed responses = .history h ∧
      h.length = responses.length + 1 ∧ h[0]? = some seed ∧
      ∀ (i : Nat) (r : Vec), responses[i]? = some r →
        h[i + 1]? = h[i]?.map fun x => xorVec (matvec cfg.n (buildMatrix cfg.n taps .shift) x) r)

/-- R106: with TM = 0, an MSTEP whose response is all-zero leaves the same S and the same HIST as an LSTEP. -/
def Obligations.ZeroResponseIsLstep : Prop :=
  ∀ (s : State) (m : Mat) (v : Vec),
    s.ERR = false → s.SV = true → s.TM = .shift → s.T = some m → s.S = some v →
    s.ICNT = s.n → s.IBUF = zeroVec s.n →
    ∃ t u, exec .mstep s = .next t ∧ exec .lstep s = .next u ∧ t.S = u.S ∧ t.HIST = u.HIST

/-- R102, MISR additivity: compressing k all-zero responses is generating k+1 states in mode ONE_TO_MANY. -/
def Obligations.ZeroResponsesGiveLfsrHistory : Prop :=
  ∀ (cfg : Config) (taps seed : Vec) (k : Nat),
    compress cfg taps seed (List.replicate k (zeroVec cfg.n)) =
      generate cfg taps seed (k + 1) Mode.shift.token

/-- R105, superposition: element by element, the last state is the XOR of what the seed alone and each response alone
would become. -/
def Obligations.SignatureIsSuperposition : Prop :=
  ∀ (n : Nat) (m : Mat) (seed : Vec) (responses : List Vec),
    seed.length = n → (∀ r ∈ responses, r.length = n) →
    ∀ i < n,
      bitAt (misrState n m seed responses responses.length) i =
        (bitAt (matpow n m responses.length seed) i ^^
          xorSum responses.length fun k =>
            bitAt (matpow n m (responses.length - (k + 1)) (responses.getD k [])) i)

/-- R104: for every tap configuration, two response sequences that differ in exactly one vector have different
signatures, and so have two different seeds. -/
def Obligations.SignatureIsSensitive : Prop :=
  (∀ (cfg : Config) (taps seed : Vec) (before after : List Vec) (r r' : Vec),
    taps.length + 1 = cfg.n → seed.length = cfg.n →
    (∀ x ∈ before ++ r :: r' :: after, x.length = cfg.n) → r ≠ r' →
    (compress cfg taps seed (before ++ r :: after)).signature ≠
      (compress cfg taps seed (before ++ r' :: after)).signature) ∧
  (∀ (cfg : Config) (taps seed seed' : Vec) (responses : List Vec),
    taps.length + 1 = cfg.n → seed.length = cfg.n → seed'.length = cfg.n →
    (∀ x ∈ responses, x.length = cfg.n) → seed ≠ seed' →
    (compress cfg taps seed responses).signature ≠ (compress cfg taps seed' responses).signature)

/-- R103: different response sequences can give the same signature; HW5's own scenario (95_test_vectors.md V21). -/
def Obligations.SignaturesCanAlias : Prop :=
  ∃ r r' : List Vec, r ≠ r' ∧ r.length = 3 ∧ r'.length = 3 ∧
    (compress Config.scenario [false, false, true, true] (zeroVec 5) r).signature =
      some [true, false, false, true, true] ∧
    (compress Config.scenario [false, false, true, true] (zeroVec 5) r').signature =
      some [true, false, false, true, true]

/-! ### Command sequences

The host issues a sequence through the list of its actions in the state, which is the model's choice (log entry 4). -/

/-- R113, the lemma for VEC, with the three commands that consume the vector. -/
def Obligations.VecLoadsInputShifter : Prop :=
  ∀ (s : State) (v : Vec), s.ERR = false →
    let run := fun is : List Instr => Machine.run is.length (s.issue is)
    let loaded : State := { s with IBUF := v.take s.n, ICNT := min v.length (s.n + 1) }
    run (vecCommands v) = .next loaded ∧
    (v.length + 1 = s.n →
      run (tapsCommands v) = .next { s with TAPS := some v, KV := true, IBUF := [], ICNT := 0 }) ∧
    (v.length + 1 ≠ s.n → run (tapsCommands v) = .next { loaded with ERR := true, ERRCODE := 1#3 }) ∧
    (s.TV = true → v.length = s.n →
      run (seedCommands v) =
        .next { s with S := some v, SV := true, HIST := [v], IBUF := [], ICNT := 0 }) ∧
    (s.TV = true → v.length ≠ s.n →
      run (seedCommands v) = .next { loaded with ERR := true, ERRCODE := 2#3 }) ∧
    (s.SV = true → s.TM = .shift → v.length = s.n → ∀ m x, s.T = some m → s.S = some x →
      ∃ w : Vec,
        run (respCommands v) = .next { s with S := some w, HIST := s.HIST ++ [w], IBUF := [], ICNT := 0 } ∧
        w.length = s.n ∧
        ∀ i < s.n, bitAt w i = ((xorSum s.n fun j => entry m i j && bitAt x j) ^^ bitAt v i)) ∧
    (s.SV = true → s.TM = .shift → v.length ≠ s.n →
      run (respCommands v) = .next { loaded with ERR := true, ERRCODE := 3#3 })

/-- R117, the lemma for READOUT: the vector leaves element 0 first, and one SHOUT more faults E_SEQ. -/
def Obligations.ReadoutEmitsState : Prop :=
  ∀ (s : State) (v : Vec), s.ERR = false → s.SV = true → s.S = some v → v.length = s.n →
    let run := fun is : List Instr => Machine.run is.length (s.issue is)
    let done : State := { s with OBUF := some (zeroVec s.n), OCNT := 0, SOUT := s.SOUT ++ v }
    run (readoutCommands s.n) = .next done ∧
    run (readoutCommands s.n ++ [.shout]) = .next { done with ERR := true, ERRCODE := 6#3 } ∧
    ∀ j ≤ s.n, ∃ t, run (.oload :: List.replicate j .shout) = .next t ∧
      t.SOUT = s.SOUT ++ v.take j ∧ t.OCNT = s.n - j

/-- R89: from any state with ERR = 0, the expansion of GENERATE realises `generate`, for every argument, valid or not;
where an argument is bad the command that consumes it faults with its code. That `generate` takes its mode as LDMODE's
token is the model's choice (log entry 12). -/
def Obligations.GenerateIsRealised : Prop :=
  ∀ (s : State) (taps seed : Vec) (count : Int) (token : BitVec 4), s.ERR = false → 1 ≤ count →
    let is := generateCommands taps seed count token
    ∃ t, Machine.run is.length (s.issue is) = .next t ∧
      t.inputs = s.inputs ∧ t.cfg = s.cfg ∧
      t.runOutcome = generate s.cfg taps seed count token ∧
      (taps.length + 1 = s.n → seed.length = s.n → token.toNat < 2 →
        t.ERR = false ∧ t.HIST.length = count.toNat ∧ t.S = t.HIST.getLast? ∧ t.HIST.head? = some seed) ∧
      (taps.length + 1 ≠ s.n → t.ERR = true ∧ t.ERRCODE = 1#3) ∧
      (taps.length + 1 = s.n → 2 ≤ token.toNat → t.ERR = true ∧ t.ERRCODE = 4#3) ∧
      (taps.length + 1 = s.n → token.toNat < 2 → seed.length ≠ s.n → t.ERR = true ∧ t.ERRCODE = 2#3)

/-- R101: from any state with ERR = 0, the expansion of COMPRESS realises `compress`, for every argument, valid or not;
where a vector has the wrong length the command that consumes it faults with its code. With MODE = 0 the LDMODE may be
omitted. -/
def Obligations.CompressIsRealised : Prop :=
  ∀ (s : State) (taps seed : Vec) (responses : List Vec), s.ERR = false →
    let is := compressCommands taps seed responses
    let short := tapsCommands taps ++ [.build] ++ seedCommands seed ++ (responses.map respCommands).flatten
    ∃ t, Machine.run is.length (s.issue is) = .next t ∧
      (s.MODE = .shift → Machine.run short.length (s.issue short) = .next t) ∧
      t.inputs = s.inputs ∧ t.cfg = s.cfg ∧
      t.runOutcome = compress s.cfg taps seed responses ∧
      (taps.length + 1 = s.n → seed.length = s.n → (∀ r ∈ responses, r.length = s.n) →
        t.ERR = false ∧ t.HIST.length = responses.length + 1 ∧
        t.S = (compress s.cfg taps seed responses).signature) ∧
      (taps.length + 1 ≠ s.n → t.ERR = true ∧ t.ERRCODE = 1#3) ∧
      (taps.length + 1 = s.n → seed.length ≠ s.n → t.ERR = true ∧ t.ERRCODE = 2#3) ∧
      (taps.length + 1 = s.n → seed.length = s.n → (∃ r ∈ responses, r.length ≠ s.n) →
        t.ERR = true ∧ t.ERRCODE = 3#3)

/-! ### Several instances -/

/-- R48: any interleaving of the host actions of several instances gives each instance the result its own actions give
alone: in a system of coherent instances, an instance to which the schedule gives j turns runs j steps by itself without a
stop, and the state it ends in is its state after the schedule, whatever the others did. The schedule is the model's form
of an interleaving (log entry 16). -/
def Obligations.InstancesAreIndependent : Prop :=
  ∀ (schedule : List Nat) (sys : List State) (k : Nat) (s : State),
    (∀ x ∈ sys, x.Inv) → sys[k]? = some s →
    ∃ t, Machine.run (schedule.count k) s = .next t ∧ (runSchedule schedule sys)[k]? = some t
end

