-- ==== Sys2Proof/Laws/State.lean ====
section
/-!
SUPPORT. Laws/State.lean: every field after every write operation, one lemma each, true by unfolding.
-/

namespace Sys2Proof.Machine.State

variable (s : State)

/-! ### takeFault: fault entry writes ERR and ERRCODE only (R136) -/

@[simp] theorem takeFault_cfg (c : ErrCode) : (s.takeFault c).cfg = s.cfg := rfl
@[simp] theorem takeFault_TAPS (c : ErrCode) : (s.takeFault c).TAPS = s.TAPS := rfl
@[simp] theorem takeFault_MODE (c : ErrCode) : (s.takeFault c).MODE = s.MODE := rfl
@[simp] theorem takeFault_T (c : ErrCode) : (s.takeFault c).T = s.T := rfl
@[simp] theorem takeFault_TM (c : ErrCode) : (s.takeFault c).TM = s.TM := rfl
@[simp] theorem takeFault_S (c : ErrCode) : (s.takeFault c).S = s.S := rfl
@[simp] theorem takeFault_KV (c : ErrCode) : (s.takeFault c).KV = s.KV := rfl
@[simp] theorem takeFault_TV (c : ErrCode) : (s.takeFault c).TV = s.TV := rfl
@[simp] theorem takeFault_SV (c : ErrCode) : (s.takeFault c).SV = s.SV := rfl
@[simp] theorem takeFault_ERR (c : ErrCode) : (s.takeFault c).ERR = true := rfl
@[simp] theorem takeFault_ERRCODE (c : ErrCode) : (s.takeFault c).ERRCODE = c.number := rfl
@[simp] theorem takeFault_IBUF (c : ErrCode) : (s.takeFault c).IBUF = s.IBUF := rfl
@[simp] theorem takeFault_ICNT (c : ErrCode) : (s.takeFault c).ICNT = s.ICNT := rfl
@[simp] theorem takeFault_OBUF (c : ErrCode) : (s.takeFault c).OBUF = s.OBUF := rfl
@[simp] theorem takeFault_OCNT (c : ErrCode) : (s.takeFault c).OCNT = s.OCNT := rfl
@[simp] theorem takeFault_HIST (c : ErrCode) : (s.takeFault c).HIST = s.HIST := rfl
@[simp] theorem takeFault_SOUT (c : ErrCode) : (s.takeFault c).SOUT = s.SOUT := rfl
@[simp] theorem takeFault_inputs (c : ErrCode) : (s.takeFault c).inputs = s.inputs := rfl
@[simp] theorem takeFault_n (c : ErrCode) : (s.takeFault c).n = s.n := rfl

/-! ### takeReset: reset keeps the width and the host's actions, and nothing else (R146) -/

@[simp] theorem takeReset_cfg : (s.takeReset).cfg = s.cfg := rfl
@[simp] theorem takeReset_TAPS : (s.takeReset).TAPS = none := rfl
@[simp] theorem takeReset_MODE : (s.takeReset).MODE = .shift := rfl
@[simp] theorem takeReset_T : (s.takeReset).T = none := rfl
@[simp] theorem takeReset_TM : (s.takeReset).TM = .shift := rfl
@[simp] theorem takeReset_S : (s.takeReset).S = none := rfl
@[simp] theorem takeReset_KV : (s.takeReset).KV = false := rfl
@[simp] theorem takeReset_TV : (s.takeReset).TV = false := rfl
@[simp] theorem takeReset_SV : (s.takeReset).SV = false := rfl
@[simp] theorem takeReset_ERR : (s.takeReset).ERR = false := rfl
@[simp] theorem takeReset_ERRCODE : (s.takeReset).ERRCODE = 0#3 := rfl
@[simp] theorem takeReset_IBUF : (s.takeReset).IBUF = [] := rfl
@[simp] theorem takeReset_ICNT : (s.takeReset).ICNT = 0 := rfl
@[simp] theorem takeReset_OBUF : (s.takeReset).OBUF = none := rfl
@[simp] theorem takeReset_OCNT : (s.takeReset).OCNT = 0 := rfl
@[simp] theorem takeReset_HIST : (s.takeReset).HIST = [] := rfl
@[simp] theorem takeReset_SOUT : (s.takeReset).SOUT = [] := rfl
@[simp] theorem takeReset_inputs : (s.takeReset).inputs = s.inputs := rfl
@[simp] theorem takeReset_n : (s.takeReset).n = s.n := rfl

/-! ### clearInput: clearing the input shifter writes IBUF and ICNT only (R110) -/

@[simp] theorem clearInput_cfg : (s.clearInput).cfg = s.cfg := rfl
@[simp] theorem clearInput_TAPS : (s.clearInput).TAPS = s.TAPS := rfl
@[simp] theorem clearInput_MODE : (s.clearInput).MODE = s.MODE := rfl
@[simp] theorem clearInput_T : (s.clearInput).T = s.T := rfl
@[simp] theorem clearInput_TM : (s.clearInput).TM = s.TM := rfl
@[simp] theorem clearInput_S : (s.clearInput).S = s.S := rfl
@[simp] theorem clearInput_KV : (s.clearInput).KV = s.KV := rfl
@[simp] theorem clearInput_TV : (s.clearInput).TV = s.TV := rfl
@[simp] theorem clearInput_SV : (s.clearInput).SV = s.SV := rfl
@[simp] theorem clearInput_ERR : (s.clearInput).ERR = s.ERR := rfl
@[simp] theorem clearInput_ERRCODE : (s.clearInput).ERRCODE = s.ERRCODE := rfl
@[simp] theorem clearInput_IBUF : (s.clearInput).IBUF = [] := rfl
@[simp] theorem clearInput_ICNT : (s.clearInput).ICNT = 0 := rfl
@[simp] theorem clearInput_OBUF : (s.clearInput).OBUF = s.OBUF := rfl
@[simp] theorem clearInput_OCNT : (s.clearInput).OCNT = s.OCNT := rfl
@[simp] theorem clearInput_HIST : (s.clearInput).HIST = s.HIST := rfl
@[simp] theorem clearInput_SOUT : (s.clearInput).SOUT = s.SOUT := rfl
@[simp] theorem clearInput_inputs : (s.clearInput).inputs = s.inputs := rfl
@[simp] theorem clearInput_n : (s.clearInput).n = s.n := rfl

/-! ### loadTaps: loading the taps writes TAPS and KV only (R74) -/

@[simp] theorem loadTaps_cfg (v : Vec) : (s.loadTaps v).cfg = s.cfg := rfl
@[simp] theorem loadTaps_TAPS (v : Vec) : (s.loadTaps v).TAPS = some v := rfl
@[simp] theorem loadTaps_MODE (v : Vec) : (s.loadTaps v).MODE = s.MODE := rfl
@[simp] theorem loadTaps_T (v : Vec) : (s.loadTaps v).T = s.T := rfl
@[simp] theorem loadTaps_TM (v : Vec) : (s.loadTaps v).TM = s.TM := rfl
@[simp] theorem loadTaps_S (v : Vec) : (s.loadTaps v).S = s.S := rfl
@[simp] theorem loadTaps_KV (v : Vec) : (s.loadTaps v).KV = true := rfl
@[simp] theorem loadTaps_TV (v : Vec) : (s.loadTaps v).TV = s.TV := rfl
@[simp] theorem loadTaps_SV (v : Vec) : (s.loadTaps v).SV = s.SV := rfl
@[simp] theorem loadTaps_ERR (v : Vec) : (s.loadTaps v).ERR = s.ERR := rfl
@[simp] theorem loadTaps_ERRCODE (v : Vec) : (s.loadTaps v).ERRCODE = s.ERRCODE := rfl
@[simp] theorem loadTaps_IBUF (v : Vec) : (s.loadTaps v).IBUF = s.IBUF := rfl
@[simp] theorem loadTaps_ICNT (v : Vec) : (s.loadTaps v).ICNT = s.ICNT := rfl
@[simp] theorem loadTaps_OBUF (v : Vec) : (s.loadTaps v).OBUF = s.OBUF := rfl
@[simp] theorem loadTaps_OCNT (v : Vec) : (s.loadTaps v).OCNT = s.OCNT := rfl
@[simp] theorem loadTaps_HIST (v : Vec) : (s.loadTaps v).HIST = s.HIST := rfl
@[simp] theorem loadTaps_SOUT (v : Vec) : (s.loadTaps v).SOUT = s.SOUT := rfl
@[simp] theorem loadTaps_inputs (v : Vec) : (s.loadTaps v).inputs = s.inputs := rfl
@[simp] theorem loadTaps_n (v : Vec) : (s.loadTaps v).n = s.n := rfl

/-! ### setMode: selecting the mode writes MODE only (R75) -/

@[simp] theorem setMode_cfg (m : Mode) : (s.setMode m).cfg = s.cfg := rfl
@[simp] theorem setMode_TAPS (m : Mode) : (s.setMode m).TAPS = s.TAPS := rfl
@[simp] theorem setMode_MODE (m : Mode) : (s.setMode m).MODE = m := rfl
@[simp] theorem setMode_T (m : Mode) : (s.setMode m).T = s.T := rfl
@[simp] theorem setMode_TM (m : Mode) : (s.setMode m).TM = s.TM := rfl
@[simp] theorem setMode_S (m : Mode) : (s.setMode m).S = s.S := rfl
@[simp] theorem setMode_KV (m : Mode) : (s.setMode m).KV = s.KV := rfl
@[simp] theorem setMode_TV (m : Mode) : (s.setMode m).TV = s.TV := rfl
@[simp] theorem setMode_SV (m : Mode) : (s.setMode m).SV = s.SV := rfl
@[simp] theorem setMode_ERR (m : Mode) : (s.setMode m).ERR = s.ERR := rfl
@[simp] theorem setMode_ERRCODE (m : Mode) : (s.setMode m).ERRCODE = s.ERRCODE := rfl
@[simp] theorem setMode_IBUF (m : Mode) : (s.setMode m).IBUF = s.IBUF := rfl
@[simp] theorem setMode_ICNT (m : Mode) : (s.setMode m).ICNT = s.ICNT := rfl
@[simp] theorem setMode_OBUF (m : Mode) : (s.setMode m).OBUF = s.OBUF := rfl
@[simp] theorem setMode_OCNT (m : Mode) : (s.setMode m).OCNT = s.OCNT := rfl
@[simp] theorem setMode_HIST (m : Mode) : (s.setMode m).HIST = s.HIST := rfl
@[simp] theorem setMode_SOUT (m : Mode) : (s.setMode m).SOUT = s.SOUT := rfl
@[simp] theorem setMode_inputs (m : Mode) : (s.setMode m).inputs = s.inputs := rfl
@[simp] theorem setMode_n (m : Mode) : (s.setMode m).n = s.n := rfl

/-! ### installMatrix: installing a matrix writes T, TM, TV, SV and S only (R76) -/

@[simp] theorem installMatrix_cfg (m : Mat) (tm : Mode) : (s.installMatrix m tm).cfg = s.cfg := rfl
@[simp] theorem installMatrix_TAPS (m : Mat) (tm : Mode) : (s.installMatrix m tm).TAPS = s.TAPS := rfl
@[simp] theorem installMatrix_MODE (m : Mat) (tm : Mode) : (s.installMatrix m tm).MODE = s.MODE := rfl
@[simp] theorem installMatrix_T (m : Mat) (tm : Mode) : (s.installMatrix m tm).T = some m := rfl
@[simp] theorem installMatrix_TM (m : Mat) (tm : Mode) : (s.installMatrix m tm).TM = tm := rfl
@[simp] theorem installMatrix_S (m : Mat) (tm : Mode) : (s.installMatrix m tm).S = none := rfl
@[simp] theorem installMatrix_KV (m : Mat) (tm : Mode) : (s.installMatrix m tm).KV = s.KV := rfl
@[simp] theorem installMatrix_TV (m : Mat) (tm : Mode) : (s.installMatrix m tm).TV = true := rfl
@[simp] theorem installMatrix_SV (m : Mat) (tm : Mode) : (s.installMatrix m tm).SV = false := rfl
@[simp] theorem installMatrix_ERR (m : Mat) (tm : Mode) : (s.installMatrix m tm).ERR = s.ERR := rfl
@[simp] theorem installMatrix_ERRCODE (m : Mat) (tm : Mode) : (s.installMatrix m tm).ERRCODE = s.ERRCODE := rfl
@[simp] theorem installMatrix_IBUF (m : Mat) (tm : Mode) : (s.installMatrix m tm).IBUF = s.IBUF := rfl
@[simp] theorem installMatrix_ICNT (m : Mat) (tm : Mode) : (s.installMatrix m tm).ICNT = s.ICNT := rfl
@[simp] theorem installMatrix_OBUF (m : Mat) (tm : Mode) : (s.installMatrix m tm).OBUF = s.OBUF := rfl
@[simp] theorem installMatrix_OCNT (m : Mat) (tm : Mode) : (s.installMatrix m tm).OCNT = s.OCNT := rfl
@[simp] theorem installMatrix_HIST (m : Mat) (tm : Mode) : (s.installMatrix m tm).HIST = s.HIST := rfl
@[simp] theorem installMatrix_SOUT (m : Mat) (tm : Mode) : (s.installMatrix m tm).SOUT = s.SOUT := rfl
@[simp] theorem installMatrix_inputs (m : Mat) (tm : Mode) : (s.installMatrix m tm).inputs = s.inputs := rfl
@[simp] theorem installMatrix_n (m : Mat) (tm : Mode) : (s.installMatrix m tm).n = s.n := rfl

/-! ### startRun: starting a run writes S, SV and HIST only (R82) -/

@[simp] theorem startRun_cfg (v : Vec) : (s.startRun v).cfg = s.cfg := rfl
@[simp] theorem startRun_TAPS (v : Vec) : (s.startRun v).TAPS = s.TAPS := rfl
@[simp] theorem startRun_MODE (v : Vec) : (s.startRun v).MODE = s.MODE := rfl
@[simp] theorem startRun_T (v : Vec) : (s.startRun v).T = s.T := rfl
@[simp] theorem startRun_TM (v : Vec) : (s.startRun v).TM = s.TM := rfl
@[simp] theorem startRun_S (v : Vec) : (s.startRun v).S = some v := rfl
@[simp] theorem startRun_KV (v : Vec) : (s.startRun v).KV = s.KV := rfl
@[simp] theorem startRun_TV (v : Vec) : (s.startRun v).TV = s.TV := rfl
@[simp] theorem startRun_SV (v : Vec) : (s.startRun v).SV = true := rfl
@[simp] theorem startRun_ERR (v : Vec) : (s.startRun v).ERR = s.ERR := rfl
@[simp] theorem startRun_ERRCODE (v : Vec) : (s.startRun v).ERRCODE = s.ERRCODE := rfl
@[simp] theorem startRun_IBUF (v : Vec) : (s.startRun v).IBUF = s.IBUF := rfl
@[simp] theorem startRun_ICNT (v : Vec) : (s.startRun v).ICNT = s.ICNT := rfl
@[simp] theorem startRun_OBUF (v : Vec) : (s.startRun v).OBUF = s.OBUF := rfl
@[simp] theorem startRun_OCNT (v : Vec) : (s.startRun v).OCNT = s.OCNT := rfl
@[simp] theorem startRun_HIST (v : Vec) : (s.startRun v).HIST = [v] := rfl
@[simp] theorem startRun_SOUT (v : Vec) : (s.startRun v).SOUT = s.SOUT := rfl
@[simp] theorem startRun_inputs (v : Vec) : (s.startRun v).inputs = s.inputs := rfl
@[simp] theorem startRun_n (v : Vec) : (s.startRun v).n = s.n := rfl

/-! ### advance: a step of the run writes S and HIST only (R83, R96) -/

@[simp] theorem advance_cfg (v : Vec) : (s.advance v).cfg = s.cfg := rfl
@[simp] theorem advance_TAPS (v : Vec) : (s.advance v).TAPS = s.TAPS := rfl
@[simp] theorem advance_MODE (v : Vec) : (s.advance v).MODE = s.MODE := rfl
@[simp] theorem advance_T (v : Vec) : (s.advance v).T = s.T := rfl
@[simp] theorem advance_TM (v : Vec) : (s.advance v).TM = s.TM := rfl
@[simp] theorem advance_S (v : Vec) : (s.advance v).S = some v := rfl
@[simp] theorem advance_KV (v : Vec) : (s.advance v).KV = s.KV := rfl
@[simp] theorem advance_TV (v : Vec) : (s.advance v).TV = s.TV := rfl
@[simp] theorem advance_SV (v : Vec) : (s.advance v).SV = s.SV := rfl
@[simp] theorem advance_ERR (v : Vec) : (s.advance v).ERR = s.ERR := rfl
@[simp] theorem advance_ERRCODE (v : Vec) : (s.advance v).ERRCODE = s.ERRCODE := rfl
@[simp] theorem advance_IBUF (v : Vec) : (s.advance v).IBUF = s.IBUF := rfl
@[simp] theorem advance_ICNT (v : Vec) : (s.advance v).ICNT = s.ICNT := rfl
@[simp] theorem advance_OBUF (v : Vec) : (s.advance v).OBUF = s.OBUF := rfl
@[simp] theorem advance_OCNT (v : Vec) : (s.advance v).OCNT = s.OCNT := rfl
@[simp] theorem advance_HIST (v : Vec) : (s.advance v).HIST = s.HIST ++ [v] := rfl
@[simp] theorem advance_SOUT (v : Vec) : (s.advance v).SOUT = s.SOUT := rfl
@[simp] theorem advance_inputs (v : Vec) : (s.advance v).inputs = s.inputs := rfl
@[simp] theorem advance_n (v : Vec) : (s.advance v).n = s.n := rfl

/-! ### capture: a capture writes OBUF and OCNT only (R115) -/

@[simp] theorem capture_cfg (v : Vec) : (s.capture v).cfg = s.cfg := rfl
@[simp] theorem capture_TAPS (v : Vec) : (s.capture v).TAPS = s.TAPS := rfl
@[simp] theorem capture_MODE (v : Vec) : (s.capture v).MODE = s.MODE := rfl
@[simp] theorem capture_T (v : Vec) : (s.capture v).T = s.T := rfl
@[simp] theorem capture_TM (v : Vec) : (s.capture v).TM = s.TM := rfl
@[simp] theorem capture_S (v : Vec) : (s.capture v).S = s.S := rfl
@[simp] theorem capture_KV (v : Vec) : (s.capture v).KV = s.KV := rfl
@[simp] theorem capture_TV (v : Vec) : (s.capture v).TV = s.TV := rfl
@[simp] theorem capture_SV (v : Vec) : (s.capture v).SV = s.SV := rfl
@[simp] theorem capture_ERR (v : Vec) : (s.capture v).ERR = s.ERR := rfl
@[simp] theorem capture_ERRCODE (v : Vec) : (s.capture v).ERRCODE = s.ERRCODE := rfl
@[simp] theorem capture_IBUF (v : Vec) : (s.capture v).IBUF = s.IBUF := rfl
@[simp] theorem capture_ICNT (v : Vec) : (s.capture v).ICNT = s.ICNT := rfl
@[simp] theorem capture_OBUF (v : Vec) : (s.capture v).OBUF = some v := rfl
@[simp] theorem capture_OCNT (v : Vec) : (s.capture v).OCNT = s.n := rfl
@[simp] theorem capture_HIST (v : Vec) : (s.capture v).HIST = s.HIST := rfl
@[simp] theorem capture_SOUT (v : Vec) : (s.capture v).SOUT = s.SOUT := rfl
@[simp] theorem capture_inputs (v : Vec) : (s.capture v).inputs = s.inputs := rfl
@[simp] theorem capture_n (v : Vec) : (s.capture v).n = s.n := rfl

/-! ### shiftOut: shifting out writes SOUT, OBUF and OCNT only (R116) -/

@[simp] theorem shiftOut_cfg (b : Bit) (rest : Vec) : (s.shiftOut b rest).cfg = s.cfg := rfl
@[simp] theorem shiftOut_TAPS (b : Bit) (rest : Vec) : (s.shiftOut b rest).TAPS = s.TAPS := rfl
@[simp] theorem shiftOut_MODE (b : Bit) (rest : Vec) : (s.shiftOut b rest).MODE = s.MODE := rfl
@[simp] theorem shiftOut_T (b : Bit) (rest : Vec) : (s.shiftOut b rest).T = s.T := rfl
@[simp] theorem shiftOut_TM (b : Bit) (rest : Vec) : (s.shiftOut b rest).TM = s.TM := rfl
@[simp] theorem shiftOut_S (b : Bit) (rest : Vec) : (s.shiftOut b rest).S = s.S := rfl
@[simp] theorem shiftOut_KV (b : Bit) (rest : Vec) : (s.shiftOut b rest).KV = s.KV := rfl
@[simp] theorem shiftOut_TV (b : Bit) (rest : Vec) : (s.shiftOut b rest).TV = s.TV := rfl
@[simp] theorem shiftOut_SV (b : Bit) (rest : Vec) : (s.shiftOut b rest).SV = s.SV := rfl
@[simp] theorem shiftOut_ERR (b : Bit) (rest : Vec) : (s.shiftOut b rest).ERR = s.ERR := rfl
@[simp] theorem shiftOut_ERRCODE (b : Bit) (rest : Vec) : (s.shiftOut b rest).ERRCODE = s.ERRCODE := rfl
@[simp] theorem shiftOut_IBUF (b : Bit) (rest : Vec) : (s.shiftOut b rest).IBUF = s.IBUF := rfl
@[simp] theorem shiftOut_ICNT (b : Bit) (rest : Vec) : (s.shiftOut b rest).ICNT = s.ICNT := rfl
@[simp] theorem shiftOut_OBUF (b : Bit) (rest : Vec) : (s.shiftOut b rest).OBUF = some (rest ++ [false]) := rfl
@[simp] theorem shiftOut_OCNT (b : Bit) (rest : Vec) : (s.shiftOut b rest).OCNT = s.OCNT - 1 := rfl
@[simp] theorem shiftOut_HIST (b : Bit) (rest : Vec) : (s.shiftOut b rest).HIST = s.HIST := rfl
@[simp] theorem shiftOut_SOUT (b : Bit) (rest : Vec) : (s.shiftOut b rest).SOUT = s.SOUT ++ [b] := rfl
@[simp] theorem shiftOut_inputs (b : Bit) (rest : Vec) : (s.shiftOut b rest).inputs = s.inputs := rfl
@[simp] theorem shiftOut_n (b : Bit) (rest : Vec) : (s.shiftOut b rest).n = s.n := rfl

/-! ### present: presenting a word writes the host's side only -/

@[simp] theorem present_cfg (cw : Word) : (s.present cw).cfg = s.cfg := rfl
@[simp] theorem present_TAPS (cw : Word) : (s.present cw).TAPS = s.TAPS := rfl
@[simp] theorem present_MODE (cw : Word) : (s.present cw).MODE = s.MODE := rfl
@[simp] theorem present_T (cw : Word) : (s.present cw).T = s.T := rfl
@[simp] theorem present_TM (cw : Word) : (s.present cw).TM = s.TM := rfl
@[simp] theorem present_S (cw : Word) : (s.present cw).S = s.S := rfl
@[simp] theorem present_KV (cw : Word) : (s.present cw).KV = s.KV := rfl
@[simp] theorem present_TV (cw : Word) : (s.present cw).TV = s.TV := rfl
@[simp] theorem present_SV (cw : Word) : (s.present cw).SV = s.SV := rfl
@[simp] theorem present_ERR (cw : Word) : (s.present cw).ERR = s.ERR := rfl
@[simp] theorem present_ERRCODE (cw : Word) : (s.present cw).ERRCODE = s.ERRCODE := rfl
@[simp] theorem present_IBUF (cw : Word) : (s.present cw).IBUF = s.IBUF := rfl
@[simp] theorem present_ICNT (cw : Word) : (s.present cw).ICNT = s.ICNT := rfl
@[simp] theorem present_OBUF (cw : Word) : (s.present cw).OBUF = s.OBUF := rfl
@[simp] theorem present_OCNT (cw : Word) : (s.present cw).OCNT = s.OCNT := rfl
@[simp] theorem present_HIST (cw : Word) : (s.present cw).HIST = s.HIST := rfl
@[simp] theorem present_SOUT (cw : Word) : (s.present cw).SOUT = s.SOUT := rfl
@[simp] theorem present_inputs (cw : Word) : (s.present cw).inputs = .command cw :: s.inputs := rfl
@[simp] theorem present_n (cw : Word) : (s.present cw).n = s.n := rfl

/-! ### issue: issuing commands writes the host's side only -/

@[simp] theorem issue_cfg (is : List Instr) : (s.issue is).cfg = s.cfg := rfl
@[simp] theorem issue_TAPS (is : List Instr) : (s.issue is).TAPS = s.TAPS := rfl
@[simp] theorem issue_MODE (is : List Instr) : (s.issue is).MODE = s.MODE := rfl
@[simp] theorem issue_T (is : List Instr) : (s.issue is).T = s.T := rfl
@[simp] theorem issue_TM (is : List Instr) : (s.issue is).TM = s.TM := rfl
@[simp] theorem issue_S (is : List Instr) : (s.issue is).S = s.S := rfl
@[simp] theorem issue_KV (is : List Instr) : (s.issue is).KV = s.KV := rfl
@[simp] theorem issue_TV (is : List Instr) : (s.issue is).TV = s.TV := rfl
@[simp] theorem issue_SV (is : List Instr) : (s.issue is).SV = s.SV := rfl
@[simp] theorem issue_ERR (is : List Instr) : (s.issue is).ERR = s.ERR := rfl
@[simp] theorem issue_ERRCODE (is : List Instr) : (s.issue is).ERRCODE = s.ERRCODE := rfl
@[simp] theorem issue_IBUF (is : List Instr) : (s.issue is).IBUF = s.IBUF := rfl
@[simp] theorem issue_ICNT (is : List Instr) : (s.issue is).ICNT = s.ICNT := rfl
@[simp] theorem issue_OBUF (is : List Instr) : (s.issue is).OBUF = s.OBUF := rfl
@[simp] theorem issue_OCNT (is : List Instr) : (s.issue is).OCNT = s.OCNT := rfl
@[simp] theorem issue_HIST (is : List Instr) : (s.issue is).HIST = s.HIST := rfl
@[simp] theorem issue_SOUT (is : List Instr) : (s.issue is).SOUT = s.SOUT := rfl
@[simp] theorem issue_inputs (is : List Instr) : (s.issue is).inputs = is.map (fun i => HostAction.command (encode i)) ++ s.inputs := rfl
@[simp] theorem issue_n (is : List Instr) : (s.issue is).n = s.n := rfl

/-! ### shiftIn: a bit arriving writes IBUF and ICNT only (R111) -/

@[simp] theorem shiftIn_cfg (b : Bit) : (s.shiftIn b).cfg = s.cfg := by unfold shiftIn; split_ifs <;> rfl
@[simp] theorem shiftIn_TAPS (b : Bit) : (s.shiftIn b).TAPS = s.TAPS := by unfold shiftIn; split_ifs <;> rfl
@[simp] theorem shiftIn_MODE (b : Bit) : (s.shiftIn b).MODE = s.MODE := by unfold shiftIn; split_ifs <;> rfl
@[simp] theorem shiftIn_T (b : Bit) : (s.shiftIn b).T = s.T := by unfold shiftIn; split_ifs <;> rfl
@[simp] theorem shiftIn_TM (b : Bit) : (s.shiftIn b).TM = s.TM := by unfold shiftIn; split_ifs <;> rfl
@[simp] theorem shiftIn_S (b : Bit) : (s.shiftIn b).S = s.S := by unfold shiftIn; split_ifs <;> rfl
@[simp] theorem shiftIn_KV (b : Bit) : (s.shiftIn b).KV = s.KV := by unfold shiftIn; split_ifs <;> rfl
@[simp] theorem shiftIn_TV (b : Bit) : (s.shiftIn b).TV = s.TV := by unfold shiftIn; split_ifs <;> rfl
@[simp] theorem shiftIn_SV (b : Bit) : (s.shiftIn b).SV = s.SV := by unfold shiftIn; split_ifs <;> rfl
@[simp] theorem shiftIn_ERR (b : Bit) : (s.shiftIn b).ERR = s.ERR := by unfold shiftIn; split_ifs <;> rfl
@[simp] theorem shiftIn_ERRCODE (b : Bit) : (s.shiftIn b).ERRCODE = s.ERRCODE := by unfold shiftIn; split_ifs <;> rfl
@[simp] theorem shiftIn_OBUF (b : Bit) : (s.shiftIn b).OBUF = s.OBUF := by unfold shiftIn; split_ifs <;> rfl
@[simp] theorem shiftIn_OCNT (b : Bit) : (s.shiftIn b).OCNT = s.OCNT := by unfold shiftIn; split_ifs <;> rfl
@[simp] theorem shiftIn_HIST (b : Bit) : (s.shiftIn b).HIST = s.HIST := by unfold shiftIn; split_ifs <;> rfl
@[simp] theorem shiftIn_SOUT (b : Bit) : (s.shiftIn b).SOUT = s.SOUT := by unfold shiftIn; split_ifs <;> rfl
@[simp] theorem shiftIn_inputs (b : Bit) : (s.shiftIn b).inputs = s.inputs := by unfold shiftIn; split_ifs <;> rfl
@[simp] theorem shiftIn_n (b : Bit) : (s.shiftIn b).n = s.n := by unfold shiftIn; split_ifs <;> rfl
@[simp] theorem shiftIn_IBUF (b : Bit) :
    (s.shiftIn b).IBUF = if s.ICNT < s.n then s.IBUF ++ [b] else s.IBUF := by unfold shiftIn; split_ifs <;> rfl
@[simp] theorem shiftIn_ICNT (b : Bit) :
    (s.shiftIn b).ICNT = if s.ICNT < s.n then s.ICNT + 1 else if s.ICNT = s.n then s.n + 1 else s.ICNT := by
  unfold shiftIn; split_ifs <;> rfl

end Sys2Proof.Machine.State
end

