-- ==== Sys2Proof/Laws/Frame.lean ====
section
/-!
SUPPORT. Laws/Frame.lean: no command reads the host's side of the ports: executing a command with other host actions still
to come does the same, with those actions still to come.
-/

namespace Sys2Proof.Machine

/-- The state with other host actions to come. -/
def State.withInputs (s : State) (actions : List HostAction) : State := { s with inputs := actions }

/-- A result with other host actions to come, where it is a next state. -/
def Outcome.withInputs (r : Result) (actions : List HostAction) : Result :=
  match r with
  | .next s => .next (s.withInputs actions)
  | .fault f => .fault f
  | .refused f => .refused f

theorem unlessFaulted_withInputs {s : State} {actions : List HostAction} {r r' : Result}
    (h : r' = Outcome.withInputs r actions) :
    unlessFaulted (s.withInputs actions) r' = Outcome.withInputs (unlessFaulted s r) actions := by
  subst h
  unfold unlessFaulted
  rw [show (s.withInputs actions).ERR = s.ERR from rfl]
  cases s.ERR <;> rfl

theorem require_withInputs {ok : Bool} {c : ErrCode} {s : State} {actions : List HostAction} {r r' : Result}
    (h : r' = Outcome.withInputs r actions) :
    require ok c (s.withInputs actions) r' = Outcome.withInputs (require ok c s r) actions := by
  subst h
  cases ok <;> rfl

theorem need_withInputs {α : Type} {reg : ValueRegister} {x : Option α} {actions : List HostAction}
    {k k' : α → Result} (h : ∀ a, k' a = Outcome.withInputs (k a) actions) :
    need reg x k' = Outcome.withInputs (need reg x k) actions := by
  cases x with
  | none => rfl
  | some a => exact h a

theorem shiftIn_withInputs (s : State) (b : Bit) (actions : List HostAction) :
    (s.withInputs actions).shiftIn b = (s.shiftIn b).withInputs actions := by
  unfold State.shiftIn
  rw [show (s.withInputs actions).ICNT = s.ICNT from rfl, show (s.withInputs actions).n = s.n from rfl]
  split_ifs <;> rfl

/-- What a command does is independent of what the host has still to do. -/
theorem exec_withInputs (i : Instr) (s : State) (actions : List HostAction) :
    exec i (s.withInputs actions) = Outcome.withInputs (exec i s) actions := by
  cases i with
  | nop => exact unlessFaulted_withInputs rfl
  | iclr => exact unlessFaulted_withInputs rfl
  | shin b => exact unlessFaulted_withInputs (congrArg Host.Outcome.next (shiftIn_withInputs s b actions))
  | ldtaps => exact unlessFaulted_withInputs (require_withInputs (need_withInputs fun _ => rfl))
  | ldmode m => refine unlessFaulted_withInputs ?_; cases Mode.ofToken m <;> rfl
  | build => exact unlessFaulted_withInputs (require_withInputs (need_withInputs fun _ => rfl))
  | ldseed =>
    exact unlessFaulted_withInputs (require_withInputs (require_withInputs (need_withInputs fun _ => rfl)))
  | lstep =>
    exact unlessFaulted_withInputs (require_withInputs (need_withInputs fun _ => need_withInputs fun _ => rfl))
  | mstep =>
    exact unlessFaulted_withInputs (require_withInputs (require_withInputs
      (need_withInputs fun _ => need_withInputs fun _ => need_withInputs fun _ => rfl)))
  | oload => exact unlessFaulted_withInputs (require_withInputs (need_withInputs fun _ => rfl))
  | shout =>
    exact unlessFaulted_withInputs (require_withInputs (need_withInputs fun v => by cases v <;> rfl))

end Sys2Proof.Machine
end

