-- ==== Sys2Proof/Laws/Gf2.lean ====
section
/-!
SUPPORT. Laws/Gf2.lean: the elements of the vectors and matrices the operations build, and the sums of R11.
-/

namespace Sys2Proof.Machine

@[simp] theorem length_mkVec (k : Nat) (f : Nat → Bit) : (mkVec k f).length = k := by simp [mkVec]

@[simp] theorem length_mkMat (n : Nat) (f : Nat → Nat → Bit) : (mkMat n f).length = n := by simp [mkMat]

@[simp] theorem length_matvec (n : Nat) (m : Mat) (v : Vec) : (matvec n m v).length = n := by simp [matvec]

@[simp] theorem length_xorVec (a b : Vec) : (xorVec a b).length = min a.length b.length := by simp [xorVec]

@[simp] theorem length_zeroVec (k : Nat) : (zeroVec k).length = k := by simp [zeroVec]

theorem bitAt_mkVec {k i : Nat} (f : Nat → Bit) (h : i < k) : bitAt (mkVec k f) i = f i := by
  simp [bitAt, mkVec, h]

theorem entry_mkMat {n i j : Nat} (f : Nat → Nat → Bit) (hi : i < n) (hj : j < n) :
    entry (mkMat n f) i j = f i j := by
  simp [entry, mkMat, hi, bitAt_mkVec _ hj]

theorem bitAt_matvec {n i : Nat} (m : Mat) (v : Vec) (h : i < n) :
    bitAt (matvec n m v) i = xorSum n fun j => entry m i j && bitAt v j := bitAt_mkVec _ h

theorem bitAt_xorVec {a b : Vec} {i : Nat} (h : a.length = b.length) :
    bitAt (xorVec a b) i = (bitAt a i ^^ bitAt b i) := by
  by_cases hi : i < a.length
  · have hb : i < b.length := h ▸ hi
    simp [bitAt, xorVec, hi, hb]
  · have hb : ¬ i < b.length := h ▸ hi
    simp [bitAt, xorVec, List.getD, hi, hb]

theorem bitAt_zeroVec (k i : Nat) : bitAt (zeroVec k) i = false := by
  simp only [bitAt, zeroVec, List.getD_eq_getElem?_getD, List.getElem?_replicate]
  split <;> rfl

/-- Two vectors of the same length with the same elements are the same vector. -/
theorem vec_ext {a b : Vec} (hl : a.length = b.length) (h : ∀ i < a.length, bitAt a i = bitAt b i) : a = b := by
  refine List.ext_getElem hl fun i h1 h2 => ?_
  simpa [bitAt, h1, h2] using h i h1

theorem xorSum_congr {k : Nat} {e f : Nat → Bit} (h : ∀ j < k, e j = f j) : xorSum k e = xorSum k f := by
  induction k with
  | zero => rfl
  | succ k ih => simp [xorSum, ih fun j hj => h j (by omega), h k (by omega)]

theorem xorSum_false (k : Nat) : xorSum k (fun _ => false) = false := by
  induction k with
  | zero => rfl
  | succ k ih => simp [xorSum, ih]

/-- The sum of the XORs is the XOR of the sums. -/
theorem xorSum_xor (k : Nat) (e f : Nat → Bit) :
    xorSum k (fun j => e j ^^ f j) = (xorSum k e ^^ xorSum k f) := by
  induction k with
  | zero => rfl
  | succ k ih =>
    simp only [xorSum, ih]
    cases xorSum k e <;> cases xorSum k f <;> cases e k <;> cases f k <;> rfl

/-- A sum with at most one term that is not 0. -/
theorem xorSum_single {k p : Nat} (hp : p < k) (e : Nat → Bit) (h : ∀ j < k, j ≠ p → e j = false) :
    xorSum k e = e p := by
  induction k with
  | zero => omega
  | succ k ih =>
    by_cases hpk : p = k
    · subst hpk
      have : xorSum p e = false := by
        rw [xorSum_congr (f := fun _ => false) fun j hj => h j (by omega) (by omega), xorSum_false]
      simp [xorSum, this]
    · simp [xorSum, ih (by omega) fun j hj hne => h j (by omega) hne, h k (by omega) (Ne.symm hpk)]

/-- The first term taken out of a sum. -/
theorem xorSum_succ_left (k : Nat) (e : Nat → Bit) :
    xorSum (k + 1) e = (e 0 ^^ xorSum k fun j => e (j + 1)) := by
  induction k with
  | zero => simp [xorSum]
  | succ k ih => rw [xorSum, ih, xorSum, Bool.xor_assoc]

theorem entry_canon {n i j : Nat} (taps : Vec) (hi : i < n) (hj : j < n) :
    entry (canon n taps) i j =
      if j = n - 1 then bitAt (tapVector taps) i else if i > 0 ∧ j = i - 1 then true else false :=
  entry_mkMat _ hi hj

theorem entry_transpose {n i j : Nat} (m : Mat) (hi : i < n) (hj : j < n) :
    entry (transpose n m) i j = entry m j i := entry_mkMat _ hi hj

end Sys2Proof.Machine
end

