-- ==== Sys2Proof/Laws/Inv.lean ====
section
/-!
SUPPORT. Laws/Inv.lean: each write operation keeps a coherent state coherent, under what its command has checked.
-/

namespace Sys2Proof.Machine.State

variable {s : State}

/-- The host's actions are no part of coherence. -/
theorem inputs_inv (h : s.Inv) (actions : List HostAction) : ({ s with inputs := actions } : State).Inv := by
  obtain ⟨_, _, _, _, _, _, _, _, _, _, _, _, _, _, _, _, _⟩ := h
  constructor <;> assumption

theorem takeFault_inv (h : s.Inv) (c : ErrCode) : (s.takeFault c).Inv := by
  obtain ⟨_, _, _, _, _, _, _, _, _, _, _, _, _, _, _, _, _⟩ := h
  constructor <;> first | assumption | (cases c <;> simp [ErrCode.number])

theorem takeReset_inv : s.takeReset.Inv := by
  constructor <;> simp [takeReset, resetOf]

theorem clearInput_inv (h : s.Inv) : s.clearInput.Inv := by
  obtain ⟨_, _, _, _, _, _, _, _, _, _, _, _, _, _, _, _, _⟩ := h
  constructor <;> first | assumption | simp

theorem shiftIn_inv (h : s.Inv) (b : Bit) : (s.shiftIn b).Inv := by
  obtain ⟨_, _, _, _, _, _, _, _, _, _, _, _, _, _, _, _, _⟩ := h
  unfold shiftIn
  split_ifs
  · constructor <;> first | assumption | (simp [State.n] at *; omega)
  · constructor <;> first | assumption | (simp [State.n] at * <;> omega)
  · constructor <;> assumption

theorem loadTaps_inv (h : s.Inv) {v : Vec} (hv : v.length + 1 = s.n) : (s.loadTaps v).Inv := by
  obtain ⟨_, _, _, _, _, _, _, _, _, _, _, _, _, _, _, _, _⟩ := h
  constructor <;> first | assumption | simp [hv]

theorem setMode_inv (h : s.Inv) (m : Mode) : (s.setMode m).Inv := by
  obtain ⟨_, _, _, _, _, _, _, _, _, _, _, _, _, _, _, _, _⟩ := h
  constructor <;> assumption

theorem installMatrix_inv (h : s.Inv) (hk : s.KV = true) {taps : Vec} (ht : taps.length + 1 = s.n) (m : Mode) :
    (s.installMatrix (buildMatrix s.n taps m) m).Inv := by
  obtain ⟨_, _, _, _, _, _, _, _, _, _, _, _, _, _, _, _, _⟩ := h
  constructor <;> first | assumption | simp [hk]
  exact ⟨taps, ht, rfl⟩

theorem startRun_inv (h : s.Inv) (ht : s.TV = true) {v : Vec} (hv : v.length = s.n) : (s.startRun v).Inv := by
  obtain ⟨_, _, _, _, _, _, _, _, _, _, _, _, _, _, _, _, _⟩ := h
  constructor <;> first | assumption | simp [ht, hv]

theorem advance_inv (h : s.Inv) (hs : s.SV = true) {v : Vec} (hv : v.length = s.n) : (s.advance v).Inv := by
  have hist := h.hist_length
  obtain ⟨_, _, _, _, _, _, _, _, _, _, _, _, _, _, _, _, _⟩ := h
  constructor <;> first | assumption | (simp [hs, hv]; done) | skip
  intro w hw
  simp only [advance_HIST, List.mem_append, List.mem_singleton] at hw
  obtain hw | rfl := hw
  · exact hist w hw
  · exact hv

theorem capture_inv (h : s.Inv) {v : Vec} (hv : v.length = s.n) : (s.capture v).Inv := by
  obtain ⟨_, _, _, _, _, _, _, _, _, _, _, _, _, _, _, _, _⟩ := h
  constructor <;> first | assumption | simp [hv]

theorem shiftOut_inv (h : s.Inv) {b : Bit} {rest : Vec} (hv : rest.length + 1 = s.n) : (s.shiftOut b rest).Inv := by
  obtain ⟨_, _, _, _, _, _, _, _, _, _, _, _, _, _, _, _, _⟩ := h
  constructor <;> first | assumption | (simp <;> omega)

end Sys2Proof.Machine.State
end

