-- ==== Sys2Proof/Laws/Ops.lean ====
section
/-!
SUPPORT. Laws/Ops.lean: for each shared operation the one lemma that says everything it can do, and for each command the
cases of its next state. A proof cites these and unfolds no meaning.
-/

namespace Sys2Proof.Machine

/-! ### The frame of a command -/

theorem unlessFaulted_running {s : State} (h : s.ERR = false) (r : Result) : unlessFaulted s r = r := by
  simp [unlessFaulted, h]

theorem unlessFaulted_faulted {s : State} (h : s.ERR = true) (r : Result) : unlessFaulted s r = .next s := by
  simp [unlessFaulted, h]

theorem unlessFaulted_next {s t : State} {r : Result} :
    unlessFaulted s r = .next t ↔ (s.ERR = true ∧ t = s) ∨ (s.ERR = false ∧ r = .next t) := by
  unfold unlessFaulted
  cases h : s.ERR <;> simp [eq_comm]

theorem raise_next {c : ErrCode} {s t : State} : raise c s = .next t ↔ t = s.takeFault c := by
  simp [raise, eq_comm]

theorem require_next {ok : Bool} {c : ErrCode} {s t : State} {r : Result} :
    require ok c s r = .next t ↔ (ok = false ∧ t = s.takeFault c) ∨ (ok = true ∧ r = .next t) := by
  unfold require
  cases ok <;> simp [raise_next]

theorem need_next {α : Type} {r : ValueRegister} {x : Option α} {k : α → Result} {t : State} :
    need r x k = .next t ↔ ∃ a, x = some a ∧ k a = .next t := by
  unfold need
  cases x <;> simp

theorem inputVector_eq_some {s : State} {k : Nat} {v : Vec} :
    s.inputVector k = some v ↔ s.IBUF.length = k ∧ v = s.IBUF := by
  unfold State.inputVector
  split_ifs with h <;> simp [h, eq_comm]

/-! ### The cases of each command's next state -/

theorem execNop_next {s t : State} : execNop s = .next t ↔ t = s := by
  rw [execNop, unlessFaulted_next]
  cases s.ERR <;> simp [eq_comm]

theorem execIllegal_next {s t : State} :
    execIllegal s = .next t ↔ (s.ERR = true ∧ t = s) ∨ (s.ERR = false ∧ t = s.takeFault .illegal) := by
  simp only [execIllegal, unlessFaulted_next, raise_next]

theorem execIclr_next {s t : State} :
    execIclr s = .next t ↔ (s.ERR = true ∧ t = s) ∨ (s.ERR = false ∧ t = s.clearInput) := by
  simp only [execIclr, unlessFaulted_next, Host.Outcome.next.injEq]
  rw [eq_comm (a := s.clearInput)]

theorem execShin_next {b : Bit} {s t : State} :
    execShin b s = .next t ↔ (s.ERR = true ∧ t = s) ∨ (s.ERR = false ∧ t = s.shiftIn b) := by
  simp only [execShin, unlessFaulted_next, Host.Outcome.next.injEq]
  rw [eq_comm (a := s.shiftIn b)]

theorem execLdtaps_next {s t : State} :
    execLdtaps s = .next t ↔ (s.ERR = true ∧ t = s) ∨ (s.ERR = false ∧
      ((s.ICNT + 1 ≠ s.n ∧ t = s.takeFault .tapsLen) ∨
       (s.ICNT + 1 = s.n ∧ s.IBUF.length = s.n - 1 ∧ t = (s.loadTaps s.IBUF).clearInput))) := by
  simp only [execLdtaps, unlessFaulted_next, require_next, need_next, inputVector_eq_some, beq_iff_eq,
    beq_eq_false_iff_ne, Host.Outcome.next.injEq, and_assoc]
  constructor
  · rintro (h | ⟨h, h' | ⟨h1, v, h2, rfl, rfl⟩⟩) <;> simp_all
  · rintro (h | ⟨h, h' | ⟨h1, h2, rfl⟩⟩) <;> simp_all

theorem execLdmode_next {m : BitVec 4} {s t : State} :
    execLdmode m s = .next t ↔ (s.ERR = true ∧ t = s) ∨ (s.ERR = false ∧
      ((∃ mode, Mode.ofToken m = some mode ∧ t = s.setMode mode) ∨
       (Mode.ofToken m = none ∧ t = s.takeFault .mode))) := by
  rw [execLdmode, unlessFaulted_next]
  cases h : Mode.ofToken m
  · simp [raise_next]
  · simp [eq_comm (b := t)]

theorem execBuild_next {s t : State} :
    execBuild s = .next t ↔ (s.ERR = true ∧ t = s) ∨ (s.ERR = false ∧
      ((s.KV = false ∧ t = s.takeFault .seq) ∨
       (s.KV = true ∧ ∃ taps, s.TAPS = some taps ∧
          t = s.installMatrix (buildMatrix s.n taps s.MODE) s.MODE))) := by
  simp only [execBuild, unlessFaulted_next, require_next, need_next, Host.Outcome.next.injEq, eq_comm (b := t)]

theorem execLdseed_next {s t : State} :
    execLdseed s = .next t ↔ (s.ERR = true ∧ t = s) ∨ (s.ERR = false ∧
      ((s.TV = false ∧ t = s.takeFault .seq) ∨
       (s.TV = true ∧ s.ICNT ≠ s.n ∧ t = s.takeFault .seedLen) ∨
       (s.TV = true ∧ s.ICNT = s.n ∧ s.IBUF.length = s.n ∧ t = (s.startRun s.IBUF).clearInput))) := by
  simp only [execLdseed, unlessFaulted_next, require_next, need_next, inputVector_eq_some, beq_iff_eq,
    beq_eq_false_iff_ne, Host.Outcome.next.injEq, and_assoc]
  constructor
  · rintro (h | ⟨h, h' | ⟨h1, h2 | ⟨h2, v, h3, rfl, rfl⟩⟩⟩) <;> simp_all
  · rintro (h | ⟨h, h' | ⟨h1, h2, h3⟩ | ⟨h1, h2, h3, h4⟩⟩) <;> simp_all

theorem execLstep_next {s t : State} :
    execLstep s = .next t ↔ (s.ERR = true ∧ t = s) ∨ (s.ERR = false ∧
      ((s.SV = false ∧ t = s.takeFault .seq) ∨
       (s.SV = true ∧ ∃ m v, s.T = some m ∧ s.S = some v ∧ t = s.advance (matvec s.n m v)))) := by
  simp only [execLstep, unlessFaulted_next, require_next, need_next, Host.Outcome.next.injEq, eq_comm (b := t),
    exists_and_left]

theorem execMstep_next {s t : State} :
    execMstep s = .next t ↔ (s.ERR = true ∧ t = s) ∨ (s.ERR = false ∧
      (((s.SV = false ∨ s.TM = .external) ∧ t = s.takeFault .seq) ∨
       (s.SV = true ∧ s.TM = .shift ∧ s.ICNT ≠ s.n ∧ t = s.takeFault .respLen) ∨
       (s.SV = true ∧ s.TM = .shift ∧ s.ICNT = s.n ∧ s.IBUF.length = s.n ∧
         ∃ m v, s.T = some m ∧ s.S = some v ∧
           t = (s.advance (xorVec (matvec s.n m v) s.IBUF)).clearInput))) := by
  simp only [execMstep, unlessFaulted_next, require_next, need_next, inputVector_eq_some, beq_iff_eq,
    beq_eq_false_iff_ne, Host.Outcome.next.injEq, and_assoc]
  cases hs : s.SV <;> cases hm : s.TM <;> simp
  constructor
  · rintro (h | ⟨h, h' | ⟨h1, m, h2, v, h3, h4, h5⟩⟩) <;> simp_all
  · rintro (h | ⟨h, h' | ⟨h1, h2, m, h3, v, h4, h5⟩⟩) <;> simp_all

theorem execOload_next {s t : State} :
    execOload s = .next t ↔ (s.ERR = true ∧ t = s) ∨ (s.ERR = false ∧
      ((s.SV = false ∧ t = s.takeFault .seq) ∨
       (s.SV = true ∧ ∃ v, s.S = some v ∧ t = s.capture v))) := by
  simp only [execOload, unlessFaulted_next, require_next, need_next, Host.Outcome.next.injEq, eq_comm (b := t)]

theorem execShout_next {s t : State} :
    execShout s = .next t ↔ (s.ERR = true ∧ t = s) ∨ (s.ERR = false ∧
      ((s.OCNT = 0 ∧ t = s.takeFault .seq) ∨
       (s.OCNT ≠ 0 ∧ ∃ b rest, s.OBUF = some (b :: rest) ∧ t = s.shiftOut b rest))) := by
  simp only [execShout, unlessFaulted_next, require_next, need_next, bne_iff_ne, bne_eq_false_iff_eq]
  constructor
  · rintro (h | ⟨h, h' | ⟨h1, v, h2, h3⟩⟩)
    · exact .inl h
    · exact .inr ⟨h, .inl h'⟩
    · cases v with
      | nil => simp at h3
      | cons b rest => exact .inr ⟨h, .inr ⟨h1, b, rest, h2, by simpa [eq_comm] using h3⟩⟩
  · rintro (h | ⟨h, h' | ⟨h1, b, rest, h2, h3⟩⟩)
    · exact .inl h
    · exact .inr ⟨h, .inl h'⟩
    · exact .inr ⟨h, .inr ⟨h1, _, h2, by simp [h3]⟩⟩

/-! ### One step -/

theorem step_idle {s : State} (h : s.inputs = []) : step s = .next s := by
  simp [step, State.nextAction, h]

theorem step_action {s : State} {a : HostAction} {rest : List HostAction} (h : s.inputs = a :: rest) :
    step s = executeAction a { s with inputs := rest } := by
  simp [step, State.nextAction, h]

end Sys2Proof.Machine
end

