-- ==== Sys2Proof/Laws/PerInstr.lean ====
section
/-!
SUPPORT. Laws/PerInstr.lean: statements made of every command, one lemma for each constructor.
Family RowMatch: the word the encoder gives a command selects that command's row of the opcode map of R54.
-/

namespace Sys2Proof.Laws.RowMatch

/-- The command's word selects a row of the opcode map, and the row is the command's own. -/
def Statement (i : Instr) : Prop := ∃ r ∈ opcodeMap, r.mnemonic = i.mnemonic ∧ r.selects (encode i) = true

theorem nop : Statement .nop := ⟨⟨"NOP", 0x00, 0xFF⟩, by decide, by decide, by decide⟩
theorem iclr : Statement .iclr := ⟨⟨"ICLR", 0x10, 0xFF⟩, by decide, by decide, by decide⟩
theorem shin (b : Bit) : Statement (.shin b) := ⟨⟨"SHIN", 0x20, 0xFE⟩, by decide, rfl, by cases b <;> decide⟩
theorem ldtaps : Statement .ldtaps := ⟨⟨"LDTAPS", 0x30, 0xFF⟩, by decide, by decide, by decide⟩
theorem ldmode (m : BitVec 4) : Statement (.ldmode m) :=
  ⟨⟨"LDMODE", 0x40, 0xF0⟩, by decide, rfl, by revert m; decide⟩
theorem build : Statement .build := ⟨⟨"BUILD", 0x50, 0xFF⟩, by decide, by decide, by decide⟩
theorem ldseed : Statement .ldseed := ⟨⟨"LDSEED", 0x60, 0xFF⟩, by decide, by decide, by decide⟩
theorem lstep : Statement .lstep := ⟨⟨"LSTEP", 0x70, 0xFF⟩, by decide, by decide, by decide⟩
theorem mstep : Statement .mstep := ⟨⟨"MSTEP", 0x80, 0xFF⟩, by decide, by decide, by decide⟩
theorem oload : Statement .oload := ⟨⟨"OLOAD", 0x90, 0xFF⟩, by decide, by decide, by decide⟩
theorem shout : Statement .shout := ⟨⟨"SHOUT", 0xA0, 0xFF⟩, by decide, by decide, by decide⟩

end Sys2Proof.Laws.RowMatch
end

