-- ==== Sys2Proof/Tests/Slice0.lean ====
section
/-!
SUPPORT. Tests/Slice0.lean: the static checks refuse ill-formed terms; words written out from R50 and R54 decode; one step
of each command gives what the spec's example says; and for each statement with hypotheses a witness that meets them.
Every expected value is the spec's: its place stands in the docstring.
-/

namespace Sys2Proof.Tests

open Sys2Proof Sys2Proof.Machine

/-! ### Small states -/

/-- A vector written as HW5 writes it. -/
def bits (ds : List Nat) : Vec := ds.map (· == 1)

/-- The smallest instance. -/
def cfg1 : Config := ⟨1, by decide⟩

/-- The matrix of R73, SHIFT, taps [1,0,1,0]. -/
def shiftMatrix : Mat :=
  [bits [0,0,0,0,1], bits [1,0,0,0,1], bits [0,1,0,0,0], bits [0,0,1,0,1], bits [0,0,0,1,0]]

/-- The matrix of R73, EXTERNAL. -/
def externalMatrix : Mat :=
  [bits [0,1,0,0,0], bits [0,0,1,0,0], bits [0,0,0,1,0], bits [0,0,0,0,1], bits [1,1,0,1,0]]

/-- The matrix of V2, SHIFT, taps [0,0,1,1]. -/
def misrMatrix : Mat :=
  [bits [0,0,0,0,1], bits [1,0,0,0,0], bits [0,1,0,0,0], bits [0,0,1,0,1], bits [0,0,0,1,1]]

/-- Just after reset, N = 5. -/
def fresh : State := State.resetOf Config.scenario

/-- A fault has been taken. -/
def faulted : State := { fresh with ERR := true, ERRCODE := 4#3 }

/-- A tap configuration is loaded. -/
def withTaps : State := { fresh with TAPS := some (bits [1,0,1,0]), KV := true }

/-- A matrix is built. -/
def built : State := { withTaps with T := some shiftMatrix, TV := true }

/-- A run is in progress on the SHIFT matrix. -/
def running : State := { built with S := some (bits [1,1,0,1,0]), SV := true, HIST := [bits [1,1,0,1,0]] }

/-- A run is in progress on the EXTERNAL matrix. -/
def runningExternal : State := { running with MODE := .external, T := some externalMatrix, TM := .external }

/-- The MISR scenario of R96's example, before its second response. -/
def runningMisr : State :=
  { fresh with TAPS := some (bits [0,0,1,1]), KV := true, T := some misrMatrix, TV := true,
               S := some (bits [0,0,0,0,1]), SV := true, HIST := [bits [0,0,0,0,0], bits [0,0,0,0,1]] }

/-- A run on the smallest instance. -/
def running1 : State :=
  { State.resetOf cfg1 with TAPS := some [], KV := true, T := some [[true]], TV := true, S := some [true], SV := true,
                            HIST := [[true]] }

/-- With a vector in the input shifter. -/
def holding (s : State) (v : Vec) : State := { s with IBUF := v, ICNT := v.length }

/-- With more than N bits arrived at the input shifter. -/
def overfull (s : State) : State := { s with IBUF := List.replicate s.n true, ICNT := s.n + 1 }

/-- With a vector in the output shifter. -/
def sending (s : State) (v : Vec) (k : Nat) : State := { s with OBUF := some v, OCNT := k }

/-- With one host action to come. -/
def about (s : State) (a : HostAction) : State := { s with inputs := [a] }

/-! ### Static checks -/

/-- R70: three taps are no tap configuration for N = 5. -/
theorem test_taps_too_short : wellFormedTaps Config.scenario (bits [1,0,1]) = false := by decide

/-- R87: a seed of four bits is no seed for N = 5 (V10). -/
theorem test_seed_too_short : wellFormedSeed Config.scenario (bits [1,1,0,1]) = false := by decide

/-- R100: one bad response among two (V10). -/
theorem test_response_too_short :
    wellFormedResponses Config.scenario [bits [0,0,0,0,1], bits [1,0,0,1]] = false := by decide

/-- R16: five rows, one of them short; and four rows. -/
theorem test_matrix_shape :
    wellFormedMatrix Config.scenario [bits [0,0,0,0,1], bits [1,0], bits [], bits [], bits []] = false ∧
    wellFormedMatrix Config.scenario (List.replicate 4 (bits [0,0,0,0,0])) = false ∧
    wellFormedMatrix Config.scenario shiftMatrix = true := by decide

/-! ### Words written out from the field layout of R50 and the opcode map of R54 -/

theorem test_decode_system : decode 0b00000000#8 = .ok .nop := by decide

theorem test_decode_shift :
    decode 0b00010000#8 = .ok .iclr ∧ decode 0b00100000#8 = .ok (.shin false) ∧
    decode 0b00100001#8 = .ok (.shin true) ∧ decode 0b10010000#8 = .ok .oload ∧
    decode 0b10100000#8 = .ok .shout := by decide

theorem test_decode_builder :
    decode 0b00110000#8 = .ok .ldtaps ∧ decode 0b01000001#8 = .ok (.ldmode 1#4) ∧
    decode 0b01001111#8 = .ok (.ldmode 15#4) ∧ decode 0b01010000#8 = .ok .build := by decide

theorem test_decode_steps :
    decode 0b01100000#8 = .ok .ldseed ∧ decode 0b01110000#8 = .ok .lstep ∧
    decode 0b10000000#8 = .ok .mstep := by decide

/-- V26. -/
theorem test_decode_illegal :
    decode 0x01#8 = .error .nonzeroImmediate ∧ decode 0x22#8 = .error .shinHighBits ∧
    decode 0x2F#8 = .error .shinHighBits ∧ decode 0x5A#8 = .error .nonzeroImmediate ∧
    decode 0xB0#8 = .error .reservedOpcode ∧ decode 0xC3#8 = .error .reservedOpcode ∧
    decode 0xFF#8 = .error .reservedOpcode := by decide

/-- The decoder in the opcode table's numbering, and a word of it run as the first after reset. -/
theorem test_table_word :
    decodeTableWord 8 0x21 = some (.shin true) ∧ decodeTableWord 8 0xB0 = none ∧
    (nextState (step (State.reset.withFetchWord 8 0x21))).map State.IBUF = some [true] := by decide

/-- The bytes of P1, from its textual form. -/
theorem test_assemble :
    (assemble (".width 5\n" ++ "TAPS [1,0,1,0]  ; 10 21\n" ++ "LDMODE ONE_TO_MANY\n" ++ "BUILD").toList).map
      Assembly.words = some [0x10, 0x21, 0x20, 0x21, 0x20, 0x30, 0x40, 0x50] := by decide

/-- P1 is GENERATE: the nineteen bytes of 95_test_vectors.md P1. -/
theorem test_generate_expansion :
    (generateCommands (bits [1,0,1,0]) (bits [1,1,0,1,0]) 5 0#4).map encode =
      [0x10, 0x21, 0x20, 0x21, 0x20, 0x30, 0x40, 0x50, 0x10, 0x21, 0x21, 0x20, 0x21, 0x20, 0x60,
       0x70, 0x70, 0x70, 0x70] := by decide

/-! ### One step of each command -/

/-- R122: NOP in a faulted state. -/
theorem test_nop : nextState (exec .nop faulted) = some faulted := by decide

/-- R110's example: ICNT = 3 before. -/
theorem test_iclr : nextState (exec .iclr (holding running (bits [1,0,1]))) = some running := by decide

/-- R111's example, its third SHIN. -/
theorem test_shin :
    nextState (exec (.shin false) (holding fresh (bits [1,1]))) = some (holding fresh (bits [1,1,0])) := by decide

/-- R111 and V23: the bit after the N-th is dropped and ICNT becomes N+1. -/
theorem test_shin_overflow :
    (nextState (exec (.shin false) (holding fresh (bits [1,1,1,1,1])))).map (fun t => (t.IBUF, t.ICNT)) =
      some (bits [1,1,1,1,1], 6) := by decide

/-- R74's example. -/
theorem test_ldtaps : nextState (exec .ldtaps (holding fresh (bits [1,0,1,0]))) = some withTaps := by decide

/-- V27a: three bits, STATUS 0x30, ICNT kept. -/
theorem test_ldtaps_length :
    (nextState (exec .ldtaps (holding fresh (bits [1,0,1])))).map (fun t => (t.status, t.ICNT, t.KV)) =
      some (0x30#8, 3, false) := by decide

/-- R75's example: `LDMODE 1`. -/
theorem test_ldmode : (nextState (exec (.ldmode 1#4) fresh)).map State.MODE = some .external := by decide

/-- V30b: token 15, STATUS 0x90. -/
theorem test_ldmode_token :
    (nextState (exec (.ldmode 15#4) fresh)).map (fun t => (t.status, t.MODE)) = some (0x90#8, .shift) := by decide

/-- R76's example, the matrix of R73. -/
theorem test_build : nextState (exec .build withTaps) = some built := by decide

/-- R76: BUILD during a run, in EXTERNAL mode. -/
theorem test_build_external :
    (nextState (exec .build { running with MODE := .external })).map (fun t => (t.T, t.TM, t.SV, t.HIST)) =
      some (some externalMatrix, .external, false, [bits [1,1,0,1,0]]) := by decide

/-- R82's example. -/
theorem test_ldseed : nextState (exec .ldseed (holding built (bits [1,1,0,1,0]))) = some running := by decide

/-- V34: TV = 0 and ICNT = 1 give E_SEQ, STATUS 0xD0. -/
theorem test_ldseed_priority :
    (nextState (exec .ldseed (holding fresh (bits [1])))).map State.status = some 0xD0#8 := by decide

/-- R83's example. -/
theorem test_lstep :
    (nextState (exec .lstep running)).map (fun t => (t.S, t.HIST.length)) = some (some (bits [0,1,1,0,1]), 2) := by
  decide

/-- V15: one step with the EXTERNAL matrix. -/
theorem test_lstep_external :
    (nextState (exec .lstep runningExternal)).map State.S = some (some (bits [1,0,1,0,1])) := by decide

/-- R96's example. -/
theorem test_mstep :
    (nextState (exec .mstep (holding runningMisr (bits [1,0,0,1,1])))).map (fun t => (t.S, t.ICNT, t.HIST.length)) =
      some (some (bits [0,0,0,0,0]), 0, 3) := by decide

/-- V31f: MSTEP on an EXTERNAL matrix, ICNT kept. -/
theorem test_mstep_external :
    (nextState (exec .mstep (holding runningExternal (bits [0,0,0,0,0])))).map (fun t => (t.status, t.ICNT)) =
      some (0xDF#8, 5) := by decide

/-- R115's example. -/
theorem test_oload :
    (nextState (exec .oload { running with S := some (bits [0,0,1,0,0]) })).map (fun t => (t.OBUF, t.OCNT)) =
      some (some (bits [0,0,1,0,0]), 5) := by decide

/-- R116's example. -/
theorem test_shout :
    (nextState (exec .shout (sending fresh (bits [0,0,1,0,0]) 5))).map (fun t => (t.SOUT, t.OBUF, t.OCNT)) =
      some ([false], some (bits [0,1,0,0,0]), 4) := by decide

/-- V31e: the empty output shifter, STATUS 0xD0. -/
theorem test_shout_empty : (nextState (exec .shout fresh)).map State.status = some 0xD0#8 := by decide

/-- V31a: an illegal word, STATUS 0xB0. -/
theorem test_illegal : (nextState (executeWord 0xFF#8 fresh)).map State.status = some 0xB0#8 := by decide

/-- R146: reset out of a faulted state. -/
theorem test_reset : nextState (step (about { faulted with SOUT := [true] } .reset)) = some fresh := by decide

/-! ### The run-level functions -/

/-- V1. -/
theorem test_generate :
    generate Config.scenario (bits [1,0,1,0]) (bits [1,1,0,1,0]) 5 0#4 =
      .history [bits [1,1,0,1,0], bits [0,1,1,0,1], bits [1,1,1,0,0], bits [0,1,1,1,0], bits [0,0,1,1,1]] := by decide

/-- V3 and V10: the empty sequence, and ConfigError. -/
theorem test_generate_edges :
    generate Config.scenario (bits [1,0,1,0]) (bits [1,1,0,1,0]) (-3) 1#4 = .history [] ∧
    generate Config.scenario (bits [1,0,1]) (bits [1,1,0,1,0]) 0 0#4 = .configError := by decide

/-- V2. -/
theorem test_compress :
    compress Config.scenario (bits [0,0,1,1]) (bits [0,0,0,0,0])
        [bits [0,0,0,0,1], bits [1,0,0,1,1], bits [1,0,0,1,1]] =
      .history [bits [0,0,0,0,0], bits [0,0,0,0,1], bits [0,0,0,0,0], bits [1,0,0,1,1]] := by decide

/-! ### Witnesses: for each statement with hypotheses, inputs that meet them, each clause at a boundary of its range -/

theorem witness_DecodeAfterEncode : Instr.wellFormed (.ldmode 15#4) = true ∧ Instr.wellFormed (.shin true) = true := by
  decide

theorem witness_EncodeAfterDecode :
    decode 0x00#8 = .ok .nop ∧ decode 0x21#8 = .ok (.shin true) ∧ decode 0x4F#8 = .ok (.ldmode 15#4) ∧
    decode 0xA0#8 = .ok .shout := by decide

theorem witness_DecoderIsTheOpcodeMap :
    (⟨"LDMODE", 0x40, 0xF0⟩ : OpcodeRow) ∈ opcodeMap ∧ (⟨"LDMODE", 0x40, 0xF0⟩ : OpcodeRow).selects 0x4F#8 = true ∧
    (⟨"SHIN", 0x20, 0xFE⟩ : OpcodeRow) ∈ opcodeMap ∧ (⟨"SHIN", 0x20, 0xFE⟩ : OpcodeRow).selects 0x21#8 = true ∧
    decode 0x21#8 = .ok (.shin true) ∧ decode 0x4F#8 = .ok (.ldmode 15#4) := by decide

/-- The first and last word of each range of R55 to R58; no word falls under two of the clauses. -/
theorem witness_IllegalWordsByRule :
    decode 0xB0#8 = .error .reservedOpcode ∧ decode 0xFF#8 = .error .reservedOpcode ∧
    decode 0x01#8 = .error .nonzeroImmediate ∧ decode 0xAF#8 = .error .nonzeroImmediate ∧
    decode 0x22#8 = .error .shinHighBits ∧ decode 0x2F#8 = .error .shinHighBits ∧
    decode 0x40#8 = .ok (.ldmode 0#4) ∧ decode 0x4F#8 = .ok (.ldmode 15#4) := by decide

theorem witness_StepRunsTheDecodedCommand :
    (about running (.command 0x70#8)).inputs = [.command 0x70#8] ∧ decode 0x70#8 = .ok .lstep ∧
    (about faulted .reset).inputs = [.reset] := by decide

theorem witness_IllegalWordRaisesIllegal :
    decode 0xB0#8 = .error .reservedOpcode ∧ fresh.ERR = false ∧ faulted.ERR = true := by decide

theorem witness_NoActionChangesNothing : running.inputs = [] := by decide

theorem witness_ResetActionForgetsEverything :
    faulted.ERR = true ∧ executeAction .reset faulted ≠ .next faulted :=
  ⟨rfl, fun h => absurd (Host.Outcome.next.inj h) (by decide)⟩

theorem witness_FaultedStateAbsorbs : faulted.ERR = true := by decide

theorem witness_FaultWritesOnlyErrAndCode :
    fresh.ERR = false ∧ ∃ t, executeWord 0x50#8 fresh = .next t ∧ t.ERR = true := ⟨rfl, _, rfl, rfl⟩

/-- One word for each fault code, and one that meets none. -/
theorem witness_FaultTableIsExact :
    wordFault 0x30#8 fresh = 1#3 ∧ wordFault 0x60#8 (overfull built) = 2#3 ∧ wordFault 0x80#8 running = 3#3 ∧
    wordFault 0x42#8 fresh = 4#3 ∧ wordFault 0x01#8 fresh = 5#3 ∧ wordFault 0x80#8 runningExternal = 6#3 ∧
    fresh.ERR = false ∧ (overfull built).ERR = false ∧ running.ERR = false ∧ runningExternal.ERR = false ∧
    wordFault 0x70#8 running = 0#3 ∧ ∃ t, executeWord 0x70#8 running = .next t :=
  ⟨by decide, by decide, by decide, by decide, by decide, by decide, rfl, rfl, rfl, rfl, by decide, _, rfl⟩

theorem witness_IclrClearsInputShifter : (overfull fresh).ERR = false := by decide

/-- One bit short of full, exactly full, overfull; and the smallest instance. -/
theorem witness_ShinShiftsBitIn :
    (holding fresh (bits [1,1,1,1])).ERR = false ∧ (holding fresh (bits [1,1,1,1])).ICNT < fresh.n ∧
    (holding fresh (bits [1,1,1,1,1])).ERR = false ∧ (holding fresh (bits [1,1,1,1,1])).ICNT = fresh.n ∧
    (overfull fresh).ERR = false ∧ (overfull fresh).ICNT = (overfull fresh).n + 1 ∧
    running1.ERR = false ∧ running1.ICNT < running1.n := by decide

/-- N−1 bits, N bits, and the empty tap configuration of N = 1. -/
theorem witness_LdtapsLoadsTaps :
    (holding fresh (bits [1,0,1,0])).ERR = false ∧ (holding fresh (bits [1,0,1,0])).ICNT = fresh.n - 1 ∧
    (holding fresh (bits [1,0,1,0])).IBUF.length = (holding fresh (bits [1,0,1,0])).ICNT ∧
    (holding fresh (bits [1,0,1,0,1])).ERR = false ∧ (holding fresh (bits [1,0,1,0,1])).ICNT ≠ fresh.n - 1 ∧
    running1.ERR = false ∧ running1.ICNT = running1.n - 1 ∧ running1.IBUF.length = running1.ICNT := by decide

theorem witness_LdmodeSelectsMode :
    fresh.ERR = false ∧ (0#4).toNat = 0 ∧ (1#4).toNat = 1 ∧ 2 ≤ (2#4).toNat ∧ 2 ≤ (15#4).toNat := by decide

theorem witness_BuildWritesMatrix :
    fresh.ERR = false ∧ fresh.KV = false ∧ withTaps.ERR = false ∧ withTaps.KV = true ∧
    withTaps.TAPS = some (bits [1,0,1,0]) ∧ 0 < withTaps.n ∧ 4 < withTaps.n := by decide

theorem witness_LdseedStartsRun :
    fresh.ERR = false ∧ fresh.TV = false ∧ built.ERR = false ∧ built.TV = true ∧ built.ICNT ≠ built.n ∧
    (overfull built).ERR = false ∧ (overfull built).TV = true ∧ (overfull built).ICNT ≠ (overfull built).n ∧
    (holding built (bits [1,1,0,1,0])).ERR = false ∧ (holding built (bits [1,1,0,1,0])).TV = true ∧
    (holding built (bits [1,1,0,1,0])).ICNT = built.n ∧
    (holding built (bits [1,1,0,1,0])).IBUF.length = (holding built (bits [1,1,0,1,0])).ICNT := by decide

theorem witness_LstepAdvancesState :
    built.ERR = false ∧ built.SV = false ∧ running.ERR = false ∧ running.SV = true ∧ running.T = some shiftMatrix ∧
    running.S = some (bits [1,1,0,1,0]) ∧ 0 < running.n ∧ 4 < running.n := by decide

theorem witness_MstepInjectsResponse :
    built.ERR = false ∧ built.SV = false ∧ runningExternal.ERR = false ∧ runningExternal.TM = .external ∧
    running.ERR = false ∧ running.SV = true ∧ running.TM = .shift ∧ running.ICNT ≠ running.n ∧
    (holding runningMisr (bits [1,0,0,1,1])).ERR = false ∧ (holding runningMisr (bits [1,0,0,1,1])).SV = true ∧
    (holding runningMisr (bits [1,0,0,1,1])).TM = .shift ∧ (holding runningMisr (bits [1,0,0,1,1])).ICNT = fresh.n ∧
    (holding runningMisr (bits [1,0,0,1,1])).IBUF.length = (holding runningMisr (bits [1,0,0,1,1])).ICNT ∧
    (holding runningMisr (bits [1,0,0,1,1])).T = some misrMatrix ∧
    (holding runningMisr (bits [1,0,0,1,1])).S = some (bits [0,0,0,0,1]) := by decide

theorem witness_OloadCapturesState :
    built.ERR = false ∧ built.SV = false ∧ running.ERR = false ∧ running.SV = true ∧
    running.S = some (bits [1,1,0,1,0]) := by decide

/-- The empty shifter, the last bit of a vector, and the smallest instance. -/
theorem witness_ShoutEmitsBit :
    fresh.ERR = false ∧ fresh.OCNT = 0 ∧
    (sending fresh (bits [1,0,0,0,0]) 1).ERR = false ∧ (sending fresh (bits [1,0,0,0,0]) 1).OCNT ≠ 0 ∧
    (sending fresh (bits [1,0,0,0,0]) 1).OBUF = some (bits [1,0,0,0,0]) ∧ (bits [1,0,0,0,0]).length = fresh.n ∧
    (sending running1 [true] 1).OCNT ≠ 0 ∧ (sending running1 [true] 1).OBUF = some [true] ∧ [true].length = running1.n := by
  decide

theorem witness_RegistersChangeOnlyByTheirWriters :
    (∃ t, exec .lstep running = .next t) ∧ (∃ t, exec .build fresh = .next t) ∧ running.KV = true ∧
    running.TV = true ∧ (∃ t, exec .nop faulted = .next t) ∧ faulted.ERR = true :=
  ⟨⟨_, rfl⟩, ⟨_, rfl⟩, rfl, rfl, ⟨_, rfl⟩, rfl⟩

theorem witness_InputShifterHasFiveWriters :
    ∃ t, exec .ldseed (holding built (bits [1,1,0,1,0])) = .next t ∧ t.ICNT ≠ (holding built (bits [1,1,0,1,0])).ICNT :=
  ⟨_, rfl, by decide⟩

theorem witness_TracesRecordThePulses :
    (∃ t, exec .lstep running = .next t) ∧ qPulse .lstep running = some (bits [0,1,1,0,1]) ∧
    (∃ t, exec .ldseed (holding built (bits [1,1,0,1,0])) = .next t) ∧
    qPulse .ldseed (holding built (bits [1,1,0,1,0])) = some (bits [1,1,0,1,0]) ∧
    (∃ t, exec .shout (sending fresh (bits [1,0,0,0,0]) 5) = .next t) ∧
    soPulse .shout (sending fresh (bits [1,0,0,0,0]) 5) = some true :=
  ⟨⟨_, rfl⟩, by decide, ⟨_, rfl⟩, by decide, ⟨_, rfl⟩, by decide⟩

theorem witness_MatrixIsFixedDuringRun :
    (∃ t, exec .lstep running = .next t ∧ t.SV = true) ∧ running.SV = true ∧
    (∃ t, exec .build running = .next t ∧ t.SV = false) ∧
    (∃ t, exec .ldseed (holding built (bits [1,1,0,1,0])) = .next t ∧ t.SV = true) ∧ built.SV = false :=
  ⟨⟨_, rfl, rfl⟩, rfl, ⟨_, rfl, rfl⟩, ⟨_, rfl, rfl⟩, rfl⟩

theorem witness_FiveCommandsAreIdempotent :
    (∃ t, exec .nop running = .next t) ∧ (∃ t, exec .iclr (overfull fresh) = .next t) ∧
    (∃ t, exec (.ldmode 1#4) running = .next t) ∧ (∃ t, exec .oload running = .next t) ∧
    (∃ t, exec .build running = .next t) :=
  ⟨⟨_, rfl⟩, ⟨_, rfl⟩, ⟨_, rfl⟩, ⟨_, rfl⟩, ⟨_, rfl⟩⟩

theorem witness_BuildDependsOnTapsAndMode :
    withTaps.cfg = running.cfg ∧ withTaps.TAPS = running.TAPS ∧ withTaps.MODE = running.MODE ∧ withTaps ≠ running ∧
    (∃ t, exec .build withTaps = .next t ∧ t.ERR = false) ∧ (∃ t, exec .build running = .next t ∧ t.ERR = false) :=
  ⟨by decide, by decide, by decide, by decide, ⟨_, rfl, rfl⟩, ⟨_, rfl, rfl⟩⟩

/-- A state of a run in progress is coherent. -/
theorem running_inv : running.Inv := by
  constructor
  · decide
  · intro v h; cases h; decide
  · decide
  · intro m h; cases h; exact ⟨bits [1,0,1,0], by decide, by decide⟩
  · decide
  · intro v h; cases h; decide
  · decide
  · decide
  · decide
  · decide
  · decide
  · intro v h; cases h
  · decide
  · decide
  · decide
  · decide
  · decide

theorem witness_StepKeepsCoherence : running.Inv ∧ ∃ t, step running = .next t := ⟨running_inv, _, rfl⟩

theorem witness_CoherentStepNeverStops : running.Inv := running_inv

theorem witness_StatusShowsTheFlags : running.status = 0x07#8 ∧ runningExternal.status = 0x0F#8 := by decide

theorem witness_PortsShowTheState :
    running.SV = true ∧ built.SV = false ∧ withTaps.TV = false ∧ running.TV = true ∧ running.T = some shiftMatrix ∧
    0 < running.n ∧ 4 < running.n := by decide

theorem witness_MatrixShapeFacts :
    (bits [1,0,1,0]).length + 1 = 5 ∧ ([] : Vec).length + 1 = 1 ∧ [true].length + 1 = 2 ∧
    (bits [0,1,1,0,1]).length = 5 := by decide

theorem witness_ShiftStepClosedForm :
    (bits [1,0,1,0]).length + 1 = 5 ∧ (bits [1,1,0,1,0]).length = 5 ∧ ([] : Vec).length + 1 = 1 ∧ [true].length = 1 := by
  decide

theorem witness_ExternalStepClosedForm :
    (bits [1,0,1,0]).length + 1 = 5 ∧ (bits [1,1,0,1,0]).length = 5 ∧ ([] : Vec).length + 1 = 1 ∧ [true].length = 1 := by
  decide

theorem witness_MisrStepClosedForm :
    let s := holding runningMisr (bits [1,0,0,1,1])
    s.ERR = false ∧ s.SV = true ∧ s.TM = .shift ∧ (bits [0,0,1,1]).length + 1 = s.n ∧
    s.T = some (buildMatrix s.n (bits [0,0,1,1]) .shift) ∧ s.S = some (bits [0,0,0,0,1]) ∧
    (bits [0,0,0,0,1]).length = s.n ∧ s.ICNT = s.n ∧ s.IBUF.length = s.n := by decide

theorem witness_StepIsLinear : (bits [1,1,0,1,0]).length = 5 ∧ (bits [0,1,1,1,1]).length = 5 := by decide

theorem witness_ZeroStateIsFixed :
    let s : State := { running with S := some (zeroVec 5) }
    s.ERR = false ∧ s.SV = true ∧ s.T = some shiftMatrix ∧ s.S = some (zeroVec s.n) := by decide

theorem witness_StepCanBeUndone :
    (bits [1,0,1,0]).length + 1 = 5 ∧ (bits [1,1,0,1,0]).length = 5 ∧
    matvec 5 (buildMatrix 5 (bits [1,0,1,0]) .shift) (bits [1,1,0,1,0]) =
      matvec 5 (buildMatrix 5 (bits [1,0,1,0]) .shift) (bits [1,1,0,1,0]) := by decide

theorem witness_HistoryIsPurelyPeriodic : (bits [1,0,1,0]).length + 1 = 5 ∧ (bits [1,1,0,1,0]).length = 5 := by decide

theorem witness_WidthOneNeverChanges :
    cfg1.n = 1 ∧ running1.n = 1 ∧ running1.ERR = false ∧ running1.SV = true ∧
    running1.T = some (buildMatrix 1 [] .shift) ∧ running1.S = some [true] := by decide

theorem witness_RunLevelFunctionsMeetTheirContracts :
    (bits [1,0,1,0]).length + 1 = Config.scenario.n ∧ (bits [1,1,0,1,0]).length = Config.scenario.n ∧
    (0 : Int) ≤ 0 ∧ (1 : Int) ≤ 1 ∧ 0 + 1 < (2 : Int).toNat ∧ [bits [0,0,0,0,1]][0]? = some (bits [0,0,0,0,1]) ∧
    ∀ r ∈ [bits [0,0,0,0,1]], r.length = Config.scenario.n := by decide

theorem witness_ZeroResponseIsLstep :
    let s := holding runningMisr (zeroVec 5)
    s.ERR = false ∧ s.SV = true ∧ s.TM = .shift ∧ s.T = some misrMatrix ∧ s.S = some (bits [0,0,0,0,1]) ∧
    s.ICNT = s.n ∧ s.IBUF = zeroVec s.n := by decide

theorem witness_SignatureIsSuperposition :
    (bits [1,0,1,1,0]).length = 5 ∧ ∀ r ∈ [bits [0,0,0,0,1], bits [1,0,0,1,1]], r.length = 5 := by decide

theorem witness_SignatureIsSensitive :
    (bits [0,0,1,1]).length + 1 = Config.scenario.n ∧ (bits [0,0,0,0,0]).length = Config.scenario.n ∧
    (∀ x ∈ [bits [0,0,0,0,1]] ++ bits [1,0,0,1,1] :: bits [0,0,0,1,1] :: [bits [1,0,0,1,1]],
      x.length = Config.scenario.n) ∧ bits [1,0,0,1,1] ≠ bits [0,0,0,1,1] ∧
    (bits [1,0,1,1,0]).length = Config.scenario.n ∧ bits [0,0,0,0,0] ≠ bits [1,0,1,1,0] := by decide

/-- Vectors of N−1, N and N+1 bits, on a run in progress, and the matrix the response meets. -/
theorem witness_VecLoadsInputShifter :
    running.ERR = false ∧ (bits [1,0,1,0]).length + 1 = running.n ∧ (bits [1,0,1,0,1]).length + 1 ≠ running.n ∧
    running.TV = true ∧ (bits [1,1,0,1,0]).length = running.n ∧ (bits [1,1,0,1,0,1]).length ≠ running.n ∧
    running.SV = true ∧ running.TM = .shift ∧ running.T = some shiftMatrix ∧ running.S = some (bits [1,1,0,1,0]) := by
  decide

theorem witness_ReadoutEmitsState :
    running.ERR = false ∧ running.SV = true ∧ running.S = some (bits [1,1,0,1,0]) ∧
    (bits [1,1,0,1,0]).length = running.n ∧ 0 ≤ running.n ∧ 5 ≤ running.n := by decide

/-- Good arguments at count = 1, three taps, token 2, and a seed of four bits, from the middle of a run. -/
theorem witness_GenerateIsRealised :
    running.ERR = false ∧ (1 : Int) ≤ 1 ∧ (bits [1,0,1,0]).length + 1 = running.n ∧
    (bits [1,1,0,1,0]).length = running.n ∧ (1#4).toNat < 2 ∧ (bits [1,0,1]).length + 1 ≠ running.n ∧
    2 ≤ (2#4).toNat ∧ (bits [1,1,0,1]).length ≠ running.n := by decide

/-- Good arguments, MODE = 0, three taps, a seed of four bits, and a bad last response. -/
theorem witness_CompressIsRealised :
    running.ERR = false ∧ running.MODE = .shift ∧ (bits [0,0,1,1]).length + 1 = running.n ∧
    (bits [0,0,0,0,0]).length = running.n ∧ (∀ r ∈ [bits [0,0,0,0,1]], r.length = running.n) ∧
    (bits [1,0,1]).length + 1 ≠ running.n ∧ (bits [1,1,0,1]).length ≠ running.n ∧
    ∃ r ∈ [bits [0,0,0,0,1], bits [1,0,0,1]], r.length ≠ running.n := by decide

/-- Two coherent instances of different widths, the first with a step to take. -/
theorem witness_InstancesAreIndependent :
    let sys := [about running (.command 0x70#8), State.resetOf cfg1]
    (∀ x ∈ sys, x.Inv) ∧ sys[0]? = some (about running (.command 0x70#8)) ∧ [0, 1].count 0 = 1 := by
  refine ⟨fun x hx => ?_, rfl, rfl⟩
  simp only [List.mem_cons, List.not_mem_nil, or_false] at hx
  obtain rfl | rfl := hx
  · exact State.inputs_inv running_inv _
  · exact State.takeReset_inv (s := running1)

end Sys2Proof.Tests
end

section
/-!
PROOFS. The reset state of every width N (10_state.md R34): its registers, flags and counters, and the STATUS view of them.
-/

namespace Sys2Proof.Machine.State

/-- STATUS is a view of ERRCODE and the flags (R30): where all of them are clear it reads 0x00. -/
theorem status_eq_zero_of_flags_clear {s : State} (hcode : s.ERRCODE = 0#3) (hERR : s.ERR = false)
    (hTM : s.TM = .shift) (hSV : s.SV = false) (hTV : s.TV = false) (hKV : s.KV = false) :
    s.status = 0x00#8 := by
  simp [status, flagBit, Mode.bit, hcode, hERR, hTM, hSV, hTV, hKV]

@[simp] theorem takeReset_status (s : State) : s.takeReset.status = 0x00#8 :=
  status_eq_zero_of_flags_clear s.takeReset_ERRCODE s.takeReset_ERR s.takeReset_TM s.takeReset_SV s.takeReset_TV
    s.takeReset_KV

/-- A reset action in the reset state changes nothing, so the reset state of every width is the outcome of
a reset action and has the fields of one. -/
theorem takeReset_resetOf (cfg : Config) : (resetOf cfg).takeReset = resetOf cfg := rfl

/-- Settles O11: the reset state is the outcome of a reset action, whose fields the `takeReset` lemmas give. -/
theorem resetStateHoldsNoValues : Obligations.ResetStateHoldsNoValues := by
  intro cfg
  rw [← takeReset_resetOf cfg]
  simp

end Sys2Proof.Machine.State
end

section
/-!
PROOFS. Which words are illegal, by the field layout of R50: the two fields of a word as numbers, then one rule of the
decoder for each class of R51 and for the reserved opcodes.
-/

namespace Sys2Proof

/-! ### The fields of a word, read as numbers (R50) -/

@[simp] theorem toNat_opcodeField (cw : Word) : (opcodeField cw).toNat = cw.toNat / 16 := by
  have hfit : cw.toNat / 16 < 16 := by omega
  simp [opcodeField, BitVec.extractLsb'_toNat, Nat.shiftRight_eq_div_pow, Nat.mod_eq_of_lt hfit]

@[simp] theorem toNat_immField (cw : Word) : (immField cw).toNat = cw.toNat % 16 := by
  simp [immField, BitVec.extractLsb'_toNat]

theorem opcodeField_eq_iff {cw : Word} {op : BitVec 4} : opcodeField cw = op ↔ cw.toNat / 16 = op.toNat := by
  rw [← BitVec.toNat_inj, toNat_opcodeField]

theorem immField_eq_zero_iff {cw : Word} : immField cw = 0#4 ↔ cw.toNat % 16 = 0 := by
  rw [← BitVec.toNat_inj, toNat_immField, BitVec.toNat_ofNat, Nat.zero_mod]

/-- The bits `cw[3:1]` that R57 wants to be 000. -/
theorem shinHighBits_eq_zero_iff {cw : Word} : cw.extractLsb' 1 3 = 0#3 ↔ cw.toNat % 16 < 2 := by
  rw [← BitVec.toNat_inj, BitVec.extractLsb'_toNat, Nat.shiftRight_eq_div_pow, BitVec.toNat_ofNat]
  omega

/-! ### The decoder, class by class (R51, R55) -/

theorem decode_reserved {cw : Word} (hop : 0xB#4 ≤ opcodeField cw) : decode cw = .error .reservedOpcode := by
  unfold decode
  split
  case h_12 => rfl
  all_goals
    rename_i hrow
    exact absurd (hrow ▸ hop) (by decide)

/-- The nine opcodes of class Z in the opcode map of R54. -/
theorem mem_classZ_opcodes : ∀ {op : BitVec 4}, op < 0xB#4 → op ≠ 0x2#4 → op ≠ 0x4#4 →
    op ∈ [0x0#4, 0x1#4, 0x3#4, 0x5#4, 0x6#4, 0x7#4, 0x8#4, 0x9#4, 0xA#4] := by decide

theorem decode_classZ {cw : Word} (hop : opcodeField cw < 0xB#4) (hB : opcodeField cw ≠ 0x2#4)
    (hM : opcodeField cw ≠ 0x4#4) : ∃ i, decode cw = decodeClassZ i cw := by
  have hmem := mem_classZ_opcodes hop hB hM
  simp only [List.mem_cons, List.not_mem_nil, or_false] at hmem
  unfold decode
  rcases hmem with h | h | h | h | h | h | h | h | h <;> rw [h] <;> exact ⟨_, rfl⟩

theorem decode_classB {cw : Word} (hop : opcodeField cw = 0x2#4) : decode cw = decodeClassB cw := by
  simp [decode, hop]

theorem decode_classM {cw : Word} (hop : opcodeField cw = 0x4#4) : decode cw = decodeClassM cw := by
  simp [decode, hop]

theorem decodeClassZ_of_imm_ne_zero (i : Instr) {cw : Word} (himm : immField cw ≠ 0#4) :
    decodeClassZ i cw = .error .nonzeroImmediate := if_neg himm

theorem decodeClassB_of_highBits_ne_zero {cw : Word} (hhigh : cw.extractLsb' 1 3 ≠ 0#3) :
    decodeClassB cw = .error .shinHighBits := if_neg hhigh

/-- Settles O4: each range of words is a range of opcodes, which fixes the class, and then the immediate decides. -/
theorem illegalWordsByRule : Obligations.IllegalWordsByRule := by
  intro cw
  refine ⟨fun hlow => ?reserved, fun hhigh hB hM himm => ?classZ, fun hlow hhigh => ?classB, fun hlow hhigh => ?classM⟩
  case reserved =>
    refine decode_reserved ?_
    rw [BitVec.le_def, toNat_opcodeField, BitVec.toNat_ofNat]
    omega
  case classZ =>
    have hop : opcodeField cw < 0xB#4 := by
      rw [BitVec.lt_def, toNat_opcodeField, BitVec.toNat_ofNat]
      omega
    obtain ⟨i, hi⟩ := decode_classZ hop (mt opcodeField_eq_iff.mp hB) (mt opcodeField_eq_iff.mp hM)
    rw [hi, decodeClassZ_of_imm_ne_zero i (mt immField_eq_zero_iff.mp himm)]
  case classB =>
    have hop : opcodeField cw = 0x2#4 := opcodeField_eq_iff.mpr (show cw.toNat / 16 = 2 by omega)
    have hbits : ¬ cw.toNat % 16 < 2 := by omega
    rw [decode_classB hop, decodeClassB_of_highBits_ne_zero (mt shinHighBits_eq_zero_iff.mp hbits)]
  case classM =>
    have hop : opcodeField cw = 0x4#4 := opcodeField_eq_iff.mpr (show cw.toNat / 16 = 4 by omega)
    have htoken : immField cw = BitVec.ofNat 4 (cw.toNat - 0x40) := by
      rw [← BitVec.toNat_inj, toNat_immField, BitVec.toNat_ofNat]
      omega
    rw [decode_classM hop, decodeClassM, htoken]

end Sys2Proof
end

section
/-!
PROOFS. The transition matrix builder (40_matrix_builder.md): the word and the mode of a token, the elements and the
shape of the built matrix (R67 to R69), and then BUILD, LDTAPS and LDMODE by the cases of their next states.
-/

namespace Sys2Proof

/-! ### The immediate of a word made from its two fields (R50) -/

theorem toNat_assembleFields (op imm : BitVec 4) : (assembleFields op imm).toNat = 16 * op.toNat + imm.toNat := by
  have himm : imm.toNat < 2 ^ 4 := imm.isLt
  rw [assembleFields, BitVec.toNat_append, ← Nat.shiftLeft_add_eq_or_of_lt himm, Nat.shiftLeft_eq]
  omega

@[simp] theorem opcodeField_assembleFields (op imm : BitVec 4) : opcodeField (assembleFields op imm) = op := by
  rw [opcodeField_eq_iff, toNat_assembleFields]
  omega

@[simp] theorem immField_assembleFields (op imm : BitVec 4) : immField (assembleFields op imm) = imm := by
  rw [← BitVec.toNat_inj, toNat_immField, toNat_assembleFields]
  omega

/-- Every token decodes (R58). -/
theorem decode_ldmode (m : BitVec 4) : decode (assembleFields 0x4#4 m) = .ok (.ldmode m) := by
  rw [decode_classM (opcodeField_assembleFields _ _), decodeClassM, immField_assembleFields]

end Sys2Proof

namespace Sys2Proof.Machine

/-! ### The mode of a token (R53, R58) -/

theorem Mode.ofToken_eq_shift {m : BitVec 4} (h : m.toNat = 0) : Mode.ofToken m = some .shift :=
  if_pos (BitVec.eq_of_toNat_eq h)

theorem Mode.ofToken_eq_external {m : BitVec 4} (h : m.toNat = 1) : Mode.ofToken m = some .external := by
  have hm : m = 1#4 := BitVec.eq_of_toNat_eq h
  simp [Mode.ofToken, hm]

theorem Mode.ofToken_eq_none {m : BitVec 4} (h : 2 ≤ m.toNat) : Mode.ofToken m = none := by
  have h0 : m ≠ 0#4 := by rintro rfl; simp at h
  have h1 : m ≠ 1#4 := by rintro rfl; simp at h
  simp [Mode.ofToken, h0, h1]

/-! ### The elements and the shape of the built matrix (R67, R68, R69) -/

theorem bitAt_tapVector (taps : Vec) (i : Nat) :
    bitAt (tapVector taps) i = if i = 0 then true else bitAt taps (i - 1) := by
  cases i <;> simp [bitAt, tapVector]

/-- R68 without a subtraction: the tap vector in the last column, ones on the sub-diagonal, 0 elsewhere. -/
theorem entry_canon_tap_or_subdiagonal {n i j : Nat} (taps : Vec) (hi : i < n) (hj : j < n) :
    entry (canon n taps) i j =
      if j + 1 = n then (if i = 0 then true else bitAt taps (i - 1)) else decide (i = j + 1) := by
  have hlast : j = n - 1 ↔ j + 1 = n := by omega
  have hsub : i > 0 ∧ j = i - 1 ↔ i = j + 1 := by omega
  simp [entry_canon taps hi hj, bitAt_tapVector, hlast, hsub]

theorem wellFormedMatrix_mkMat (cfg : Config) (f : Nat → Nat → Bit) :
    wellFormedMatrix cfg (mkMat cfg.n f) = true := by
  simp [wellFormedMatrix, mkMat]

theorem wellFormedMatrix_buildMatrix (cfg : Config) (taps : Vec) (mode : Mode) :
    wellFormedMatrix cfg (buildMatrix cfg.n taps mode) = true := by
  cases mode with
  | shift => exact wellFormedMatrix_mkMat cfg _
  | external => exact wellFormedMatrix_mkMat cfg _

/-! ### The three commands -/

/-- Settles O21: T is what `build_matrix` gives, so each element is one of the canonical matrix, in mode EXTERNAL with
row and column exchanged. -/
theorem buildWritesMatrix : Obligations.BuildWritesMatrix := by
  refine ⟨by decide, fun s hrun => ⟨fun hKV => ?sequenceFault, fun hKV taps htaps => ?built⟩⟩
  case sequenceFault => exact execBuild_next.mpr (.inr ⟨hrun, .inl ⟨hKV, rfl⟩⟩)
  case built =>
    refine ⟨buildMatrix s.n taps s.MODE, ?next, ?shape, fun i j hi hj => ?elements⟩
    case next => exact execBuild_next.mpr (.inr ⟨hrun, .inr ⟨hKV, taps, htaps, rfl⟩⟩)
    case shape => exact wellFormedMatrix_buildMatrix s.cfg taps s.MODE
    case elements =>
      cases s.MODE with
      | shift => exact entry_canon_tap_or_subdiagonal taps hi hj
      | external => exact (entry_transpose _ hi hj).trans (entry_canon_tap_or_subdiagonal taps hj hi)

/-- Settles O19: the two cases of LDTAPS, the model's guard `ICNT + 1 = N` read as the rule's `ICNT = N - 1`. -/
theorem ldtapsLoadsTaps : Obligations.LdtapsLoadsTaps := by
  refine ⟨by decide, fun s hrun => ?_⟩
  have hwidth : 0 < s.n := s.cfg.n_pos
  refine ⟨fun hlen => ?lengthFault, fun hlen hIBUF => ?loaded⟩
  case lengthFault =>
    have hguard : s.ICNT + 1 ≠ s.n := by omega
    exact execLdtaps_next.mpr (.inr ⟨hrun, .inl ⟨hguard, rfl⟩⟩)
  case loaded =>
    have hguard : s.ICNT + 1 = s.n := by omega
    exact execLdtaps_next.mpr (.inr ⟨hrun, .inr ⟨hguard, hIBUF.trans hlen, rfl⟩⟩)

/-- Settles O20: the cases of LDMODE by the mode its token names. -/
theorem ldmodeSelectsMode : Obligations.LdmodeSelectsMode := by
  refine ⟨decode_ldmode, fun s m hrun => ⟨fun hm => ?shift, fun hm => ?external, fun hm => ?modeFault⟩⟩
  case shift => exact execLdmode_next.mpr (.inr ⟨hrun, .inl ⟨.shift, Mode.ofToken_eq_shift hm, rfl⟩⟩)
  case external => exact execLdmode_next.mpr (.inr ⟨hrun, .inl ⟨.external, Mode.ofToken_eq_external hm, rfl⟩⟩)
  case modeFault => exact execLdmode_next.mpr (.inr ⟨hrun, .inr ⟨Mode.ofToken_eq_none hm, rfl⟩⟩)

end Sys2Proof.Machine
end

section
/-!
PROOFS. The LFSR test pattern generator (41_lfsr_generator.md): the vector a command drives on `q` (R28), and then LDSEED
and LSTEP by the cases of their next states.
-/

namespace Sys2Proof.Machine

/-! ### The pulse on `q` (R28) -/

theorem completed_next_of_not_faulted {t : State} (hrun : t.ERR = false) : completed (.next t) = some t := by
  simp [completed, nextState, hrun]

/-- A command that drives `q` and takes no fault drives the S it leaves. -/
theorem qPulse_of_exec_next {i : Instr} {s t : State} (hi : i = .ldseed ∨ i = .lstep ∨ i = .mstep)
    (hnext : exec i s = .next t) (hrun : t.ERR = false) : qPulse i s = t.S := by
  have hpulse : (completed (exec i s)).bind State.S = t.S := by
    rw [hnext, completed_next_of_not_faulted hrun, Option.bind_some]
  obtain rfl | rfl | rfl := hi
  · exact hpulse
  · exact hpulse
  · exact hpulse

/-! ### The two commands -/

/-- Settles O23: the new S is the product of R81, whose length and bits `length_matvec` and `bitAt_matvec` give. -/
theorem lstepAdvancesState : Obligations.LstepAdvancesState := by
  refine ⟨by decide, fun s hrun => ⟨fun hSV => ?sequenceFault, fun hSV m v hT hS => ?advanced⟩⟩
  case sequenceFault => exact execLstep_next.mpr (.inr ⟨hrun, .inl ⟨hSV, rfl⟩⟩)
  case advanced =>
    have hnext : exec .lstep s = .next (s.advance (matvec s.n m v)) :=
      execLstep_next.mpr (.inr ⟨hrun, .inr ⟨hSV, m, v, hT, hS, rfl⟩⟩)
    have hpulse : qPulse .lstep s = some (matvec s.n m v) := qPulse_of_exec_next (.inr (.inl rfl)) hnext hrun
    exact ⟨matvec s.n m v, hnext, hpulse, length_matvec s.n m v, fun _ hi => bitAt_matvec m v hi⟩

/-- Settles O22: the cases of LDSEED in the order of its checks, and the seed on `q` where a run starts. -/
theorem ldseedStartsRun : Obligations.LdseedStartsRun := by
  refine ⟨by decide, fun s hrun => ⟨fun hTV => ?sequenceFault, fun hTV hlen => ?lengthFault,
    fun hTV hlen hIBUF => ?started⟩⟩
  case sequenceFault => exact execLdseed_next.mpr (.inr ⟨hrun, .inl ⟨hTV, rfl⟩⟩)
  case lengthFault => exact execLdseed_next.mpr (.inr ⟨hrun, .inr (.inl ⟨hTV, hlen, rfl⟩)⟩)
  case started =>
    have hnext : exec .ldseed s = .next (s.startRun s.IBUF).clearInput :=
      execLdseed_next.mpr (.inr ⟨hrun, .inr (.inr ⟨hTV, hlen, hIBUF.trans hlen, rfl⟩)⟩)
    exact ⟨hnext, qPulse_of_exec_next (.inl rfl) hnext hrun⟩

end Sys2Proof.Machine
end

section
/-!
PROOFS. The MISR signature analyzer (42_misr_analyzer.md): the vector an MSTEP leaves in S, element by element (R96), and
then MSTEP by the cases of its next states.
-/

namespace Sys2Proof.Machine

/-! ### The product with the response XORed in (R96) -/

theorem length_xorVec_matvec {n : Nat} {r : Vec} (m : Mat) (v : Vec) (hr : r.length = n) :
    (xorVec (matvec n m v) r).length = n := by
  rw [length_xorVec, length_matvec, hr, Nat.min_self]

theorem bitAt_xorVec_matvec {n i : Nat} {r : Vec} (m : Mat) (v : Vec) (hr : r.length = n) (hi : i < n) :
    bitAt (xorVec (matvec n m v) r) i = ((xorSum n fun j => entry m i j && bitAt v j) ^^ bitAt r i) := by
  rw [bitAt_xorVec ((length_matvec n m v).trans hr.symm), bitAt_matvec m v hi]

/-! ### The command -/

/-- Settles O24: the cases of MSTEP in the order of its checks; the new S is the product of R81 with the response
XORed in. -/
theorem mstepInjectsResponse : Obligations.MstepInjectsResponse := by
  refine ⟨by decide, fun s hrun => ⟨fun hseq => ?sequenceFault, fun hSV hTM hlen => ?lengthFault,
    fun hSV hTM hlen hIBUF m v hT hS => ?advanced⟩⟩
  case sequenceFault => exact execMstep_next.mpr (.inr ⟨hrun, .inl ⟨hseq, rfl⟩⟩)
  case lengthFault => exact execMstep_next.mpr (.inr ⟨hrun, .inr (.inl ⟨hSV, hTM, hlen, rfl⟩)⟩)
  case advanced =>
    have hresponse : s.IBUF.length = s.n := hIBUF.trans hlen
    have hnext : exec .mstep s = .next (s.advance (xorVec (matvec s.n m v) s.IBUF)).clearInput :=
      execMstep_next.mpr (.inr ⟨hrun, .inr (.inr ⟨hSV, hTM, hlen, hresponse, m, v, hT, hS, rfl⟩)⟩)
    exact ⟨xorVec (matvec s.n m v) s.IBUF, hnext, qPulse_of_exec_next (.inr (.inr rfl)) hnext hrun,
      length_xorVec_matvec m v hresponse, fun _ hi => bitAt_xorVec_matvec m v hresponse hi⟩

end Sys2Proof.Machine
end

section
/-!
PROOFS. The serial shift logic (43_serial_shift_logic.md): the bit a command drives on `so` (R29), the three cases of a bit
arriving (R111) and the elements of the output shifter once it has moved (R116), and then ICLR, SHIN, OLOAD and SHOUT by
the cases of their next states.
-/

namespace Sys2Proof.Machine

/-! ### The input shifter: a bit arriving (R111) -/

theorem State.shiftIn_of_lt {s : State} (b : Bit) (hroom : s.ICNT < s.n) :
    s.shiftIn b = { s with IBUF := s.IBUF ++ [b], ICNT := s.ICNT + 1 } := if_pos hroom

theorem State.shiftIn_of_full {s : State} (b : Bit) (hfull : s.ICNT = s.n) :
    s.shiftIn b = { s with ICNT := s.n + 1 } := by
  simp [shiftIn, hfull]

theorem State.shiftIn_of_overfull {s : State} (b : Bit) (hover : s.n < s.ICNT) : s.shiftIn b = s := by
  simp [shiftIn, hover.not_gt, hover.ne']

/-! ### The output shifter: the bit that leaves it, and the vector that stays (R29, R116) -/

theorem bitAt_concat_of_lt {v : Vec} {k : Nat} (b : Bit) (hk : k < v.length) : bitAt (v ++ [b]) k = bitAt v k :=
  List.getD_append v [b] false k hk

theorem bitAt_concat_length (v : Vec) (b : Bit) : bitAt (v ++ [b]) v.length = b := by
  simp [bitAt]

theorem bitAt_cons_succ (b : Bit) (v : Vec) (k : Nat) : bitAt (b :: v) (k + 1) = bitAt v k := rfl

/-- A SHOUT that takes no fault drives the bit that stood at OBUF[0]. -/
theorem soPulse_of_exec_next {s t : State} {b : Bit} {rest : Vec} (hOBUF : s.OBUF = some (b :: rest))
    (hnext : exec .shout s = .next t) (hrun : t.ERR = false) : soPulse .shout s = some b := by
  simp [soPulse, hnext, completed_next_of_not_faulted hrun, hOBUF]

/-! ### The four commands -/

/-- Settles O17: ICLR without a fault is the write that empties the input shifter. -/
theorem iclrClearsInputShifter : Obligations.IclrClearsInputShifter :=
  ⟨by decide, fun s hrun => execIclr_next.mpr (.inr ⟨hrun, rfl⟩)⟩

/-- Settles O18: the three cases of a bit arriving, by where ICNT stands. -/
theorem shinShiftsBitIn : Obligations.ShinShiftsBitIn := by
  refine ⟨by decide, by decide, fun s b hrun => ?_⟩
  have hnext : exec (.shin b) s = .next (s.shiftIn b) := execShin_next.mpr (.inr ⟨hrun, rfl⟩)
  rw [hnext]
  refine ⟨fun hroom => ?stored, fun hfull => ?overflow, fun hover => ?dropped⟩
  case stored => rw [State.shiftIn_of_lt b hroom]
  case overflow => rw [State.shiftIn_of_full b hfull]
  case dropped => rw [State.shiftIn_of_overfull b (by omega)]

/-- Settles O25: the two cases of OLOAD. -/
theorem oloadCapturesState : Obligations.OloadCapturesState := by
  refine ⟨by decide, fun s hrun => ⟨fun hSV => ?sequenceFault, fun hSV v hS => ?captured⟩⟩
  case sequenceFault => exact execOload_next.mpr (.inr ⟨hrun, .inl ⟨hSV, rfl⟩⟩)
  case captured => exact execOload_next.mpr (.inr ⟨hrun, .inr ⟨hSV, v, hS, rfl⟩⟩)

/-- Settles O26: OBUF has N ≥ 1 elements, so it is a first bit, which is emitted, and a rest, to which 0 is added at the
top. -/
theorem shoutEmitsBit : Obligations.ShoutEmitsBit := by
  refine ⟨by decide, fun s hrun => ⟨fun hOCNT => ?sequenceFault, fun hOCNT v hOBUF hlen => ?emitted⟩⟩
  case sequenceFault => exact execShout_next.mpr (.inr ⟨hrun, .inl ⟨hOCNT, rfl⟩⟩)
  case emitted =>
    have hwidth : 0 < s.n := s.cfg.n_pos
    obtain ⟨b, rest, rfl⟩ := List.exists_cons_of_length_pos (hlen ▸ hwidth)
    have hrest : rest.length + 1 = s.n := hlen
    have hlast : s.n - 1 = rest.length := by omega
    have hnext : exec .shout s = .next (s.shiftOut b rest) :=
      execShout_next.mpr (.inr ⟨hrun, .inr ⟨hOCNT, b, rest, hOBUF, rfl⟩⟩)
    refine ⟨rest ++ [false], hnext, soPulse_of_exec_next hOBUF hnext hrun, ?length, fun k hk => ?moved, ?top⟩
    case length => rw [List.length_append, List.length_singleton, hrest]
    case moved => rw [bitAt_cons_succ, bitAt_concat_of_lt false (by omega)]
    case top => rw [hlast, bitAt_concat_length]

end Sys2Proof.Machine
end

section
/-!
PROOFS. The system commands (44_system_commands.md): NOP (R122), and the word that decodes to no command (R123).
-/

namespace Sys2Proof.Machine

/-- Line 2 of the step (R121): a word that decodes to no command is executed as an illegal word. -/
theorem executeWord_of_decode_error {cw : Word} {e : IllegalWord} (hillegal : decode cw = .error e) (s : State) :
    executeWord cw s = execIllegal s := by
  simp [executeWord, hillegal]

/-- Settles O9: the two cases of an illegal word, by ERR. -/
theorem illegalWordRaisesIllegal : Obligations.IllegalWordRaisesIllegal := by
  intro s cw e hillegal
  rw [executeWord_of_decode_error hillegal]
  refine ⟨fun hrun => ?illegalFault, fun hfaulted => ?absorbed⟩
  case illegalFault => exact execIllegal_next.mpr (.inr ⟨hrun, rfl⟩)
  case absorbed => exact execIllegal_next.mpr (.inl ⟨hfaulted, rfl⟩)

/-- Settles O16: the state after NOP is the state before it. -/
theorem nopChangesNothing : Obligations.NopChangesNothing :=
  ⟨by decide, fun _ => execNop_next.mpr rfl⟩

end Sys2Proof.Machine
end

section
/-!
PROOFS. The faults of the core (60_exceptions.md): while ERR = 1 nothing changes (R137); with ERR = 0 the tables of R128
and R134, in the order of R135, say which fault a word meets, and fault entry writes ERR and ERRCODE only (R136).
-/

namespace Sys2Proof.Machine

/-! ### Line 2 of the step (R121) -/

/-- A word that decodes runs its command. -/
theorem executeWord_of_decode_ok {cw : Word} {i : Instr} (hlegal : decode cw = .ok i) (s : State) :
    executeWord cw s = exec i s := by
  simp [executeWord, hlegal]

theorem wordFault_of_decode_ok {cw : Word} {i : Instr} (hlegal : decode cw = .ok i) (s : State) :
    wordFault cw s = commandFault i s := by
  simp [wordFault, hlegal]

theorem wordFault_of_decode_error {cw : Word} {e : IllegalWord} (hillegal : decode cw = .error e) (s : State) :
    wordFault cw s = ErrCode.illegal.number := by
  simp [wordFault, hillegal, ErrCode.number]

/-! ### The faulted state (R137) -/

/-- Line 1 of the step (R121) stands in front of every meaning. -/
theorem exec_of_faulted {s : State} (hfaulted : s.ERR = true) (i : Instr) : exec i s = .next s := by
  cases i <;> exact unlessFaulted_faulted hfaulted _

theorem executeWord_of_faulted {s : State} (hfaulted : s.ERR = true) (cw : Word) : executeWord cw s = .next s := by
  cases hdecode : decode cw with
  | ok i => rw [executeWord_of_decode_ok hdecode, exec_of_faulted hfaulted]
  | error e => rw [executeWord_of_decode_error hdecode, execIllegal, unlessFaulted_faulted hfaulted]

/-! ### The numbers of the fault codes (R128), and where STATUS shows them (R30) -/

theorem ErrCode.number_mem_one_to_six (c : ErrCode) : 1 ≤ c.number.toNat ∧ c.number.toNat ≤ 6 := by
  cases c <;> decide

theorem ErrCode.number_ne_zero (c : ErrCode) : c.number ≠ 0#3 := by
  cases c <;> decide

/-- Bit 4 is the upper one of the five bits under ERRCODE. -/
theorem State.status_getLsbD_four (s : State) : s.status.getLsbD 4 = s.ERR := by
  rw [status, BitVec.getLsbD_append, BitVec.getLsbD_append]
  simp [flagBit]

theorem State.status_extractLsb'_five_three (s : State) : s.status.extractLsb' 5 3 = s.ERRCODE :=
  BitVec.extractLsb'_append_eq_left

/-! ### What a check or a read can raise

`MeetsFault s r code` is kept by each operation a meaning is built of, so a command's line of the fault table is read
off its checks in their order. -/

/-- Executed in `s`, a command with result `r` meets the fault numbered `code`: fault entry with that code is all it
does; or `code` is 0, and a next state has the ERR and ERRCODE of `s`. -/
def MeetsFault (s : State) (r : Result) (code : BitVec 3) : Prop :=
  (∃ c : ErrCode, code = c.number ∧ r = .next (s.takeFault c)) ∨
  (code = 0#3 ∧ ∀ t, r = .next t → t.ERR = s.ERR ∧ t.ERRCODE = s.ERRCODE)

theorem raise_meetsFault (c : ErrCode) (s : State) : MeetsFault s (raise c s) c.number :=
  .inl ⟨c, rfl, rfl⟩

theorem next_meetsFault {s t : State} (hERR : t.ERR = s.ERR) (hcode : t.ERRCODE = s.ERRCODE) :
    MeetsFault s (.next t) 0#3 :=
  .inr ⟨rfl, fun _ ht => Host.Outcome.next.inj ht ▸ ⟨hERR, hcode⟩⟩

theorem fault_meetsFault (f : Fault) (s : State) : MeetsFault s (.fault f) 0#3 :=
  .inr ⟨rfl, nofun⟩

theorem unlessFaulted_meetsFault {code : BitVec 3} {s : State} {r : Result} (hrun : s.ERR = false)
    (h : MeetsFault s r code) : MeetsFault s (unlessFaulted s r) code := by
  rwa [unlessFaulted_running hrun]

/-- A check is a line of the fault table: its condition `P` in the table is that the check fails. -/
theorem require_meetsFault {P : Prop} [Decidable P] {ok : Bool} {c : ErrCode} {code : BitVec 3} {s : State} {r : Result}
    (hcheck : P ↔ ok = false) (h : MeetsFault s r code) :
    MeetsFault s (require ok c s r) (if P then c.number else code) := by
  cases ok with
  | false => rw [if_pos (hcheck.mpr rfl)]; exact raise_meetsFault c s
  | true => rw [if_neg (by simp [hcheck])]; exact h

theorem need_meetsFault {α : Type} {reg : ValueRegister} {x : Option α} {s : State} {k : α → Result}
    (h : ∀ a, MeetsFault s (k a) 0#3) : MeetsFault s (need reg x k) 0#3 := by
  cases x with
  | none => exact fault_meetsFault _ s
  | some a => exact h a

/-! ### The fault table (R128 to R135) -/

/-- E_TAPS_LEN: the table's `ICNT ≠ N - 1` is the failure of the model's check `ICNT + 1 = N`, as N ≥ 1. -/
theorem tapsLen_check_fails_iff (s : State) : s.ICNT ≠ s.n - 1 ↔ (s.ICNT + 1 == s.n) = false := by
  have hwidth : 0 < s.n := s.cfg.n_pos
  rw [beq_eq_false_iff_ne]
  omega

theorem misr_sequence_check_fails_iff (s : State) :
    s.SV = false ∨ s.TM = .external ↔ (s.SV && s.TM == .shift) = false := by
  cases s.SV <;> cases s.TM <;> decide

theorem ldmode_meetsFault {s : State} (hrun : s.ERR = false) (m : BitVec 4) :
    MeetsFault s (exec (.ldmode m) s) (commandFault (.ldmode m) s) := by
  refine unlessFaulted_meetsFault hrun ?_
  by_cases hm : 2 ≤ m.toNat
  case pos =>
    rw [commandFault, if_pos hm, Mode.ofToken_eq_none hm]
    exact raise_meetsFault .mode s
  case neg =>
    have htoken : m.toNat = 0 ∨ m.toNat = 1 := by omega
    rw [commandFault, if_neg hm]
    obtain h0 | h1 := htoken
    · rw [Mode.ofToken_eq_shift h0]; exact next_meetsFault rfl rfl
    · rw [Mode.ofToken_eq_external h1]; exact next_meetsFault rfl rfl

theorem exec_meetsFault {s : State} (hrun : s.ERR = false) (i : Instr) :
    MeetsFault s (exec i s) (commandFault i s) := by
  cases i with
  | nop => exact unlessFaulted_meetsFault hrun (next_meetsFault rfl rfl)
  | iclr => exact unlessFaulted_meetsFault hrun (next_meetsFault rfl rfl)
  | shin b => exact unlessFaulted_meetsFault hrun (next_meetsFault (s.shiftIn_ERR b) (s.shiftIn_ERRCODE b))
  | ldtaps =>
    exact unlessFaulted_meetsFault hrun <| require_meetsFault (tapsLen_check_fails_iff s) <|
      need_meetsFault fun _ => next_meetsFault rfl rfl
  | ldmode m => exact ldmode_meetsFault hrun m
  | build =>
    exact unlessFaulted_meetsFault hrun <| require_meetsFault Iff.rfl <|
      need_meetsFault fun _ => next_meetsFault rfl rfl
  | ldseed =>
    exact unlessFaulted_meetsFault hrun <| require_meetsFault Iff.rfl <|
      require_meetsFault beq_eq_false_iff_ne.symm <| need_meetsFault fun _ => next_meetsFault rfl rfl
  | lstep =>
    exact unlessFaulted_meetsFault hrun <| require_meetsFault Iff.rfl <|
      need_meetsFault fun _ => need_meetsFault fun _ => next_meetsFault rfl rfl
  | mstep =>
    exact unlessFaulted_meetsFault hrun <| require_meetsFault (misr_sequence_check_fails_iff s) <|
      require_meetsFault beq_eq_false_iff_ne.symm <|
      need_meetsFault fun _ => need_meetsFault fun _ => need_meetsFault fun _ => next_meetsFault rfl rfl
  | oload =>
    exact unlessFaulted_meetsFault hrun <| require_meetsFault Iff.rfl <|
      need_meetsFault fun _ => next_meetsFault rfl rfl
  | shout =>
    refine unlessFaulted_meetsFault hrun <| require_meetsFault bne_eq_false_iff_eq.symm <| need_meetsFault fun v => ?_
    cases v with
    | nil => exact fault_meetsFault _ s
    | cons b rest => exact next_meetsFault rfl rfl

/-- E_ILLEGAL for a word that does not decode, and otherwise the fault of its command (R135). -/
theorem executeWord_meetsFault {s : State} (hrun : s.ERR = false) (cw : Word) :
    MeetsFault s (executeWord cw s) (wordFault cw s) := by
  cases hdecode : decode cw with
  | ok i =>
    rw [wordFault_of_decode_ok hdecode, executeWord_of_decode_ok hdecode]
    exact exec_meetsFault hrun i
  | error e =>
    rw [wordFault_of_decode_error hdecode, executeWord_of_decode_error hdecode]
    exact unlessFaulted_meetsFault hrun (raise_meetsFault .illegal s)

/-! ### The three statements -/

/-- Settles O13: the faulted state for commands and for words. -/
theorem faultedStateAbsorbs : Obligations.FaultedStateAbsorbs :=
  ⟨fun i _ hfaulted => exec_of_faulted hfaulted i, fun _ cw hfaulted => executeWord_of_faulted hfaulted cw⟩

/-- Settles O14: a word that meets no fault leaves ERR = 0, so this one did fault entry, and STATUS shows its code. -/
theorem faultWritesOnlyErrAndCode : Obligations.FaultWritesOnlyErrAndCode := by
  intro s t cw hrun hnext hfaulted
  obtain ⟨c, -, hfault⟩ | ⟨-, hkeeps⟩ := executeWord_meetsFault hrun cw
  case inl =>
    obtain rfl : t = s.takeFault c := Host.Outcome.next.inj (hnext.symm.trans hfault)
    obtain ⟨hlow, hhigh⟩ := c.number_mem_one_to_six
    exact ⟨c.number, hlow, hhigh, rfl, rfl, State.status_getLsbD_four _, State.status_extractLsb'_five_three _⟩
  case inr =>
    obtain ⟨hERR, -⟩ := hkeeps t hnext
    simp [hERR, hrun] at hfaulted

/-- Settles O15: the two cases of a word that meets the fault of the table, and the faulted state. -/
theorem faultTableIsExact : Obligations.FaultTableIsExact := by
  refine ⟨fun s cw hrun => ?running, fun s cw hfaulted t hnext => ?absorbed⟩
  case running =>
    obtain ⟨c, hcode, hfault⟩ | ⟨hnone, hkeeps⟩ := executeWord_meetsFault hrun cw
    case inl =>
      rw [hcode]
      exact ⟨fun _ => hfault, fun hzero => absurd hzero c.number_ne_zero⟩
    case inr => exact ⟨fun hsome => absurd hnone hsome, fun _ t hnext => hrun ▸ hkeeps t hnext⟩
  case absorbed =>
    rw [executeWord_of_faulted hfaulted, Host.Outcome.next.injEq] at hnext
    rw [hnext]

end Sys2Proof.Machine
end

section
/-!
PROOFS. Reset (70_reset_and_hazards.md): what each host action does, the reset request in every state and the command word
in a faulted one, and then the reset action as the only way out of the faulted state (R146).
-/

namespace Sys2Proof.Machine

/-! ### The two host actions -/

/-- A reset request asks nothing of the state it is taken in. -/
theorem executeAction_reset (s : State) : executeAction .reset s = .next s.takeReset := rfl

theorem executeAction_command (cw : Word) (s : State) : executeAction (.command cw) s = executeWord cw s := rfl

/-- A host action that has an effect on a faulted core is no command: those are ignored there (R137). -/
theorem eq_reset_of_faulted_of_effect {s : State} {a : HostAction} (hfaulted : s.ERR = true)
    (heffect : executeAction a s ≠ .next s) : a = .reset := by
  cases a with
  | command cw =>
    have hignored : executeAction (.command cw) s = .next s := by
      rw [executeAction_command, executeWord_of_faulted hfaulted]
    exact absurd hignored heffect
  | reset => rfl

/-! ### Reset -/

/-- Settles O12: the `takeReset` lemmas give every field after a reset, and the effect on a faulted core is by the two
host actions. -/
theorem resetActionForgetsEverything : Obligations.ResetActionForgetsEverything := by
  refine ⟨fun s => ⟨s.takeReset, executeAction_reset s, ?fields⟩, fun s a => eq_reset_of_faulted_of_effect⟩
  case fields => simp

end Sys2Proof.Machine
end

section
/-!
PROOFS. The encoding (30_encoding.md sections 1 to 4): a word is its two fields put together (R50), so the decoder and
the encoder are inverse class by class (R51), and the decoder reads the rows of the opcode map (R54).
-/

namespace Sys2Proof

/-! ### Decoding the word of a command -/

/-- The two words of SHIN. -/
theorem decode_shin (b : Bit) : decode (encode (.shin b)) = .ok (.shin b) := by
  cases b <;> decide

/-- Settles O1: nine fixed words, the two words of SHIN, and the word of each token. -/
theorem decodeAfterEncode : Obligations.DecodeAfterEncode := by
  intro i _
  cases i with
  | shin b => exact decode_shin b
  | ldmode m => exact decode_ldmode m
  | nop | iclr | ldtaps | build | ldseed | lstep | mstep | oload | shout => rfl

theorem decode_encode (i : Instr) : decode (encode i) = .ok i :=
  decodeAfterEncode i (by cases i <;> rfl)

/-! ### Encoding the command of a word -/

/-- A word is its opcode and its immediate (R50). -/
theorem assembleFields_opcodeField_immField (cw : Word) : assembleFields (opcodeField cw) (immField cw) = cw := by
  rw [← BitVec.toNat_inj, toNat_assembleFields, toNat_opcodeField, toNat_immField, Nat.div_add_mod]

theorem decodeClassZ_eq_ok {i j : Instr} {cw : Word} :
    decodeClassZ j cw = .ok i ↔ immField cw = 0#4 ∧ i = j := by
  unfold decodeClassZ
  split_ifs with himm <;> simp [himm, eq_comm]

theorem decodeClassB_eq_ok {i : Instr} {cw : Word} :
    decodeClassB cw = .ok i ↔ cw.extractLsb' 1 3 = 0#3 ∧ i = .shin (cw.getLsbD 0) := by
  unfold decodeClassB
  split_ifs with hhigh <;> simp [hhigh, eq_comm]

/-- The immediate of a SHIN word whose high bits are 0 is its data bit (R52, R57). -/
theorem immField_of_shinHighBits_eq_zero {cw : Word} (hhigh : cw.extractLsb' 1 3 = 0#3) :
    immField cw = if cw.getLsbD 0 then 0x1#4 else 0x0#4 := by
  have hsmall : cw.toNat % 16 < 2 := shinHighBits_eq_zero_iff.mp hhigh
  rw [← BitVec.toNat_inj, toNat_immField, BitVec.getLsbD_eq_getElem (by decide), BitVec.getElem_eq_testBit_toNat,
    Nat.testBit_zero]
  split_ifs with hbit <;> simp at hbit ⊢ <;> omega

/-- A word of class Z that decodes to the command of its opcode has the immediate 0000. -/
theorem encode_of_decodeClassZ {i j : Instr} {op : BitVec 4} {cw : Word} (hop : opcodeField cw = op)
    (hj : encode j = assembleFields op 0x0#4) (hok : decodeClassZ j cw = .ok i) : encode i = cw := by
  obtain ⟨himm, rfl⟩ := decodeClassZ_eq_ok.mp hok
  rw [hj, ← hop, ← himm, assembleFields_opcodeField_immField]

theorem encode_of_decodeClassB {i : Instr} {cw : Word} (hop : opcodeField cw = 0x2#4)
    (hok : decodeClassB cw = .ok i) : encode i = cw := by
  obtain ⟨hhigh, rfl⟩ := decodeClassB_eq_ok.mp hok
  rw [encode, ← immField_of_shinHighBits_eq_zero hhigh, ← hop, assembleFields_opcodeField_immField]

theorem encode_of_decodeClassM {i : Instr} {cw : Word} (hop : opcodeField cw = 0x4#4)
    (hok : decodeClassM cw = .ok i) : encode i = cw := by
  obtain rfl : .ldmode (immField cw) = i := Except.ok.inj hok
  rw [encode, ← hop, assembleFields_opcodeField_immField]

/-- Settles O2: by the row of the decoder the word's opcode selects. -/
theorem encodeAfterDecode : Obligations.EncodeAfterDecode := by
  intro cw i hok
  unfold decode at hok
  split at hok
  case h_3 hop => exact encode_of_decodeClassB hop hok
  case h_5 hop => exact encode_of_decodeClassM hop hok
  case h_12 => cases hok
  all_goals
    rename_i hop
    exact encode_of_decodeClassZ hop rfl hok

/-- The decoder and the encoder say the same of a word and a command. -/
theorem decode_eq_ok_iff {cw : Word} {i : Instr} : decode cw = .ok i ↔ encode i = cw :=
  ⟨encodeAfterDecode cw i, fun h => h ▸ decode_encode i⟩

/-! ### The rows of the opcode map (R54) -/

theorem selects_iff {r : OpcodeRow} {cw : Word} : r.selects cw = true ↔ cw &&& r.mask = r.pattern := by
  simp [OpcodeRow.selects]

/-- Every mask covers the opcode, so a selected row has the opcode of the word. -/
theorem opcodeField_of_selects {cw : Word} {r : OpcodeRow} (hr : r ∈ opcodeMap) (hsel : r.selects cw = true) :
    opcodeField cw = opcodeField r.pattern := by
  have hmask : ∀ r ∈ opcodeMap, opcodeField r.mask = BitVec.allOnes 4 := by decide
  rw [← selects_iff.mp hsel, opcodeField, opcodeField, BitVec.extractLsb'_and, ← opcodeField, ← opcodeField, hmask r hr,
    BitVec.and_allOnes]

/-- No two rows have one opcode, so no word selects two rows. -/
theorem eq_of_selects {cw : Word} {r r' : OpcodeRow} (hr : r ∈ opcodeMap) (hr' : r' ∈ opcodeMap)
    (hsel : r.selects cw = true) (hsel' : r'.selects cw = true) : r = r' := by
  have hdistinct : ∀ r ∈ opcodeMap, ∀ r' ∈ opcodeMap, opcodeField r.pattern = opcodeField r'.pattern → r = r' := by
    decide
  exact hdistinct r hr r' hr' ((opcodeField_of_selects hr hsel).symm.trans (opcodeField_of_selects hr' hsel'))

/-- A row with mask 0xFF is selected by its pattern only. -/
theorem eq_pattern_of_full_mask {cw : Word} {r : OpcodeRow} (hmask : r.mask = BitVec.allOnes 8)
    (hsel : r.selects cw = true) : cw = r.pattern := by
  rw [← selects_iff.mp hsel, hmask, BitVec.and_allOnes]

/-- The mask of SHIN's row covers the bits `cw[3:1]`. -/
theorem shinHighBits_of_selects {cw : Word} (hsel : (⟨"SHIN", 0x20, 0xFE⟩ : OpcodeRow).selects cw = true) :
    cw.extractLsb' 1 3 = 0#3 := by
  have hbits := congrArg (BitVec.extractLsb' 1 3) (selects_iff.mp hsel)
  rwa [BitVec.extractLsb'_and, show BitVec.extractLsb' 1 3 (0xFE : Word) = BitVec.allOnes 3 from rfl,
    BitVec.and_allOnes] at hbits

/-- Nine rows are their pattern alone, which decodes; SHIN's fixes all but the data bit, LDMODE's the opcode. -/
theorem decode_of_selects {cw : Word} {r : OpcodeRow} (hr : r ∈ opcodeMap) (hsel : r.selects cw = true) :
    ∃ i, decode cw = .ok i := by
  have hrows : ∀ r ∈ opcodeMap, (r.mask = BitVec.allOnes 8 ∧ (decode r.pattern).toOption.isSome) ∨
      r = ⟨"SHIN", 0x20, 0xFE⟩ ∨ r = ⟨"LDMODE", 0x40, 0xF0⟩ := by decide
  obtain ⟨hmask, hlegal⟩ | rfl | rfl := hrows r hr
  · rw [eq_pattern_of_full_mask hmask hsel]
    cases hdecode : decode r.pattern with
    | ok i => exact ⟨i, rfl⟩
    | error e => simp [hdecode, Except.toOption] at hlegal
  · have hop : opcodeField cw = 0x2#4 := opcodeField_of_selects hr hsel
    exact ⟨_, (decode_classB hop).trans (decodeClassB_eq_ok.mpr ⟨shinHighBits_of_selects hsel, rfl⟩)⟩
  · have hop : opcodeField cw = 0x4#4 := opcodeField_of_selects hr hsel
    exact ⟨_, decode_classM hop⟩

/-- The family RowMatch over all commands. -/
theorem encode_selects_row (i : Instr) : Laws.RowMatch.Statement i := by
  cases i with
  | nop => exact Laws.RowMatch.nop
  | iclr => exact Laws.RowMatch.iclr
  | shin b => exact Laws.RowMatch.shin b
  | ldtaps => exact Laws.RowMatch.ldtaps
  | ldmode m => exact Laws.RowMatch.ldmode m
  | build => exact Laws.RowMatch.build
  | ldseed => exact Laws.RowMatch.ldseed
  | lstep => exact Laws.RowMatch.lstep
  | mstep => exact Laws.RowMatch.mstep
  | oload => exact Laws.RowMatch.oload
  | shout => exact Laws.RowMatch.shout

/-- Settles O3: a word that decodes is the word of its command and selects that command's row; a word that selects a row
decodes, and rows are disjoint. -/
theorem decoderIsTheOpcodeMap : Obligations.DecoderIsTheOpcodeMap := by
  have row_of_decode : ∀ {cw : Word} {i : Instr}, decode cw = .ok i →
      ∃ r ∈ opcodeMap, r.selects cw = true ∧ r.mnemonic = i.mnemonic := by
    intro cw i hok
    obtain ⟨r, hr, hname, hsel⟩ := encode_selects_row i
    exact ⟨r, hr, decode_eq_ok_iff.mp hok ▸ hsel, hname⟩
  refine ⟨fun cw r hr hsel => ?rowDecodes, fun cw i => row_of_decode, fun cw r r' => eq_of_selects,
    fun cw b hok => ?dataBit, fun cw m hok => ?token⟩
  case rowDecodes =>
    obtain ⟨i, hok⟩ := decode_of_selects hr hsel
    obtain ⟨r', hr', hsel', hname⟩ := row_of_decode hok
    exact ⟨i, hok, by rw [← hname, eq_of_selects hr hr' hsel hsel']⟩
  case dataBit =>
    obtain rfl : encode (.shin b) = cw := decode_eq_ok_iff.mp hok
    cases b <;> rfl
  case token =>
    obtain rfl : encode (.ldmode m) = cw := decode_eq_ok_iff.mp hok
    rw [encode, toNat_assembleFields]
    omega

/-! ### Counting and writing out words -/

/-- Settles O5: the decoder run over the 256 words. -/
theorem wordCounts : Obligations.WordCounts := ⟨rfl, rfl, rfl, rfl⟩

/-- Settles O6: the decoder run on the ten words. -/
theorem writtenOutWordsDecode : Obligations.WrittenOutWordsDecode := by
  unfold Obligations.WrittenOutWordsDecode
  decide

end Sys2Proof
end

section
/-!
PROOFS. The textual form of a command stream (30_encoding.md section 5): the text is cut into one line for each command,
and each line is read back as its command.
-/

namespace Sys2Proof.Machine

/-! ### Cutting a text into lines -/

/-- A line that holds no newline is read up to the newline that ends it. -/
theorem splitLines_line {line : List Char} (hline : '\n' ∉ line) (rest acc : List Char) :
    splitLines (line ++ '\n' :: rest) acc = (acc.reverse ++ line) :: splitLines rest [] := by
  induction line generalizing acc with
  | nil => simp [splitLines]
  | cons c cs ih =>
    obtain ⟨hc, hcs⟩ := List.ne_and_not_mem_of_not_mem_cons hline
    simp [splitLines, hc.symm, ih hcs]

/-- No command's text holds a newline. -/
theorem newline_not_mem_text (i : Instr) : '\n' ∉ Instr.text i := by
  cases i with
  | shin b => cases b <;> decide
  | ldmode m => revert m; decide
  | nop | iclr | ldtaps | build | ldseed | lstep | mstep | oload | shout => decide

/-- The text of a command stream is one line for each command, and an empty line after the last newline. -/
theorem splitLines_programText (is : List Instr) : splitLines (programText is) [] = is.map Instr.text ++ [[]] := by
  induction is with
  | nil => rfl
  | cons i is ih =>
    have htext : programText (i :: is) = Instr.text i ++ '\n' :: programText is := by simp [programText]
    rw [htext, splitLines_line (newline_not_mem_text i), ih]
    simp

/-! ### Reading a line -/

/-- The line of `i` begins with a word that is not the directive, and reads as the command `i` alone. -/
def readsAs (line : List Token) (i : Instr) : Bool :=
  match line with
  | .word w :: args => w != ".width".toList && (parseCommand w args).bind (assembleItem none) == some [i]
  | _ => false

theorem text_readsAs (i : Instr) : readsAs (lexLine (Instr.text i) []) i = true := by
  cases i with
  | shin b => cases b <;> decide
  | ldmode m => revert m; decide
  | nop | iclr | ldtaps | build | ldseed | lstep | mstep | oload | shout => decide

theorem exists_word_of_readsAs {line : List Token} {i : Instr} (h : readsAs line i = true) :
    ∃ w args, line = .word w :: args ∧ w ≠ ".width".toList ∧
      (parseCommand w args).bind (assembleItem none) = some [i] := by
  match line, h with
  | .word w :: args, h => exact ⟨w, args, rfl, by simpa [readsAs] using h⟩

theorem assembleLines_of_readsAs {line : List Token} {i : Instr} (h : readsAs line i = true)
    (lines : List (List Token)) :
    assembleLines none (line :: lines) = (assembleLines none lines).map (i :: ·) := by
  obtain ⟨w, args, rfl, -, hparse⟩ := exists_word_of_readsAs h
  rw [assembleLines, hparse]
  cases assembleLines none lines <;> rfl

/-- A first line that is no directive belongs to the commands. -/
theorem assembleProgram_of_readsAs {line : List Token} {i : Instr} (h : readsAs line i = true)
    (lines : List (List Token)) :
    assembleProgram (line :: lines) = (assembleLines none (line :: lines)).map fun cs => ⟨none, cs⟩ := by
  obtain ⟨w, args, rfl, hword, -⟩ := exists_word_of_readsAs h
  unfold assembleProgram
  split <;> simp_all

/-! ### Reading a text -/

/-- The tokens of the lines of a command stream's text. -/
def streamLines (is : List Instr) : List (List Token) :=
  (is.map fun i => lexLine (Instr.text i) []) ++ [[]]

theorem assemble_programText (is : List Instr) : assemble (programText is) = assembleProgram (streamLines is) := by
  simp [assemble, splitLines_programText, streamLines, lexLine, endWord, Function.comp_def]

theorem assembleLines_streamLines (is : List Instr) : assembleLines none (streamLines is) = some is := by
  induction is with
  | nil => rfl
  | cons i is ih =>
    have hline : streamLines (i :: is) = lexLine (Instr.text i) [] :: streamLines is := rfl
    rw [hline, assembleLines_of_readsAs (text_readsAs i), ih, Option.map_some]

/-- Settles O7: the first line is no directive, and every line is read as its command. -/
theorem assemblerReadsItsText : Obligations.AssemblerReadsItsText := by
  intro is
  rw [assemble_programText]
  cases is with
  | nil => rfl
  | cons i is =>
    have hline : streamLines (i :: is) = lexLine (Instr.text i) [] :: streamLines is := rfl
    rw [hline, assembleProgram_of_readsAs (text_readsAs i), ← hline, assembleLines_streamLines, Option.map_some]

end Sys2Proof.Machine
end

section
/-!
PROOFS. What a command can do, said once for all commands (`CommandEffect`), and from it what the state rules say of
every command: the frame (10_state.md sections 2 to 5), the traces (R28, R29), T during a run (R150), idempotence (R43)
and what BUILD depends on (R77).
-/

namespace Sys2Proof.Machine

/-- What executing a command in `s` can leave: `s` itself while ERR = 1 (R137), fault entry (R136), or the one write of
the command, under what its meaning has checked. -/
inductive CommandEffect (s : State) : Instr → State → Prop
  | ignored {i : Instr} (hfaulted : s.ERR = true) : CommandEffect s i s
  | raised {i : Instr} (c : ErrCode) (hrun : s.ERR = false) (hnop : i ≠ .nop) (hiclr : i ≠ .iclr)
      (hshin : ∀ b, i ≠ .shin b) : CommandEffect s i (s.takeFault c)
  | nop (hrun : s.ERR = false) : CommandEffect s .nop s
  | iclr (hrun : s.ERR = false) : CommandEffect s .iclr s.clearInput
  | shin (b : Bit) (hrun : s.ERR = false) : CommandEffect s (.shin b) (s.shiftIn b)
  | ldtaps (hrun : s.ERR = false) (hIBUF : s.IBUF.length + 1 = s.n) :
      CommandEffect s .ldtaps (s.loadTaps s.IBUF).clearInput
  | ldmode {m : BitVec 4} {mode : Mode} (hrun : s.ERR = false) (htoken : Mode.ofToken m = some mode) :
      CommandEffect s (.ldmode m) (s.setMode mode)
  | build {taps : Vec} (hrun : s.ERR = false) (hKV : s.KV = true) (hTAPS : s.TAPS = some taps) :
      CommandEffect s .build (s.installMatrix (buildMatrix s.n taps s.MODE) s.MODE)
  | ldseed (hrun : s.ERR = false) (hTV : s.TV = true) (hIBUF : s.IBUF.length = s.n) :
      CommandEffect s .ldseed (s.startRun s.IBUF).clearInput
  | lstep {m : Mat} {v : Vec} (hrun : s.ERR = false) (hSV : s.SV = true) (hT : s.T = some m) (hS : s.S = some v) :
      CommandEffect s .lstep (s.advance (matvec s.n m v))
  | mstep {m : Mat} {v : Vec} (hrun : s.ERR = false) (hSV : s.SV = true) (hTM : s.TM = .shift) (hT : s.T = some m)
      (hS : s.S = some v) (hIBUF : s.IBUF.length = s.n) :
      CommandEffect s .mstep (s.advance (xorVec (matvec s.n m v) s.IBUF)).clearInput
  | oload {v : Vec} (hrun : s.ERR = false) (hSV : s.SV = true) (hS : s.S = some v) :
      CommandEffect s .oload (s.capture v)
  | shout {b : Bit} {rest : Vec} (hrun : s.ERR = false) (hOCNT : s.OCNT ≠ 0) (hOBUF : s.OBUF = some (b :: rest)) :
      CommandEffect s .shout (s.shiftOut b rest)

/-- The next state of every command is one of its effects, by the cases of each command's next state. -/
theorem commandEffect_of_exec_next {i : Instr} {s t : State} (hnext : exec i s = .next t) : CommandEffect s i t := by
  cases i with
  | nop =>
    obtain rfl := execNop_next.mp hnext
    cases hERR : t.ERR with
    | false => exact .nop hERR
    | true => exact .ignored hERR
  | iclr =>
    obtain ⟨hERR, rfl⟩ | ⟨hrun, rfl⟩ := execIclr_next.mp hnext
    · exact .ignored hERR
    · exact .iclr hrun
  | shin b =>
    obtain ⟨hERR, rfl⟩ | ⟨hrun, rfl⟩ := execShin_next.mp hnext
    · exact .ignored hERR
    · exact .shin b hrun
  | ldtaps =>
    obtain ⟨hERR, rfl⟩ | ⟨hrun, ⟨-, rfl⟩ | ⟨hICNT, hIBUF, rfl⟩⟩ := execLdtaps_next.mp hnext
    · exact .ignored hERR
    · exact .raised _ hrun nofun nofun nofun
    · exact .ldtaps hrun (by omega)
  | ldmode m =>
    obtain ⟨hERR, rfl⟩ | ⟨hrun, ⟨mode, htoken, rfl⟩ | ⟨-, rfl⟩⟩ := execLdmode_next.mp hnext
    · exact .ignored hERR
    · exact .ldmode hrun htoken
    · exact .raised _ hrun nofun nofun nofun
  | build =>
    obtain ⟨hERR, rfl⟩ | ⟨hrun, ⟨-, rfl⟩ | ⟨hKV, taps, hTAPS, rfl⟩⟩ := execBuild_next.mp hnext
    · exact .ignored hERR
    · exact .raised _ hrun nofun nofun nofun
    · exact .build hrun hKV hTAPS
  | ldseed =>
    obtain ⟨hERR, rfl⟩ | ⟨hrun, ⟨-, rfl⟩ | ⟨-, -, rfl⟩ | ⟨hTV, -, hIBUF, rfl⟩⟩ := execLdseed_next.mp hnext
    · exact .ignored hERR
    · exact .raised _ hrun nofun nofun nofun
    · exact .raised _ hrun nofun nofun nofun
    · exact .ldseed hrun hTV hIBUF
  | lstep =>
    obtain ⟨hERR, rfl⟩ | ⟨hrun, ⟨-, rfl⟩ | ⟨hSV, m, v, hT, hS, rfl⟩⟩ := execLstep_next.mp hnext
    · exact .ignored hERR
    · exact .raised _ hrun nofun nofun nofun
    · exact .lstep hrun hSV hT hS
  | mstep =>
    obtain ⟨hERR, rfl⟩ | ⟨hrun, ⟨-, rfl⟩ | ⟨-, -, -, rfl⟩ | ⟨hSV, hTM, -, hIBUF, m, v, hT, hS, rfl⟩⟩ :=
      execMstep_next.mp hnext
    · exact .ignored hERR
    · exact .raised _ hrun nofun nofun nofun
    · exact .raised _ hrun nofun nofun nofun
    · exact .mstep hrun hSV hTM hT hS hIBUF
  | oload =>
    obtain ⟨hERR, rfl⟩ | ⟨hrun, ⟨-, rfl⟩ | ⟨hSV, v, hS, rfl⟩⟩ := execOload_next.mp hnext
    · exact .ignored hERR
    · exact .raised _ hrun nofun nofun nofun
    · exact .oload hrun hSV hS
  | shout =>
    obtain ⟨hERR, rfl⟩ | ⟨hrun, ⟨-, rfl⟩ | ⟨hOCNT, b, rest, hOBUF, rfl⟩⟩ := execShout_next.mp hnext
    · exact .ignored hERR
    · exact .raised _ hrun nofun nofun nofun
    · exact .shout hrun hOCNT hOBUF

/-! ### The frame (10_state.md sections 2 to 5) -/

/-- Settles O27: each effect writes only what its write operation writes. -/
theorem registersChangeOnlyByTheirWriters : Obligations.RegistersChangeOnlyByTheirWriters := by
  intro i s t hnext
  cases commandEffect_of_exec_next hnext with
  | ignored => simp
  | raised c hrun hnop hiclr hshin => simp [hnop, hiclr, hshin]
  | nop | iclr | shin b | ldtaps | ldmode | build | ldseed | lstep | mstep | oload | shout => simp

theorem exec_next_cfg {i : Instr} {s t : State} (hnext : exec i s = .next t) : t.cfg = s.cfg := by
  obtain ⟨hcfg, -⟩ := registersChangeOnlyByTheirWriters i s t hnext
  exact hcfg

theorem exec_next_inputs {i : Instr} {s t : State} (hnext : exec i s = .next t) : t.inputs = s.inputs := by
  obtain ⟨-, hinputs, -⟩ := registersChangeOnlyByTheirWriters i s t hnext
  exact hinputs

/-- Settles O28: an effect that leaves another input shifter is that of ICLR or SHIN, or a success of a consuming
command. -/
theorem inputShifterHasFiveWriters : Obligations.InputShifterHasFiveWriters := by
  intro i s t hnext hchanged
  cases commandEffect_of_exec_next hnext with
  | iclr hrun => exact .inl rfl
  | shin b hrun => exact .inr (.inl ⟨b, rfl⟩)
  | ldtaps hrun => exact .inr (.inr ⟨.inl rfl, hrun⟩)
  | ldseed hrun => exact .inr (.inr ⟨.inr (.inl rfl), hrun⟩)
  | mstep hrun => exact .inr (.inr ⟨.inr (.inr rfl), hrun⟩)
  | ignored | raised | nop | ldmode | build | lstep | oload | shout => simp at hchanged

/-! ### The traces (R28, R29) -/

theorem completed_next_of_faulted {t : State} (hfaulted : t.ERR = true) : completed (.next t) = none := by
  simp [completed, nextState, hfaulted]

/-- A command that leaves ERR = 1 drives no vector on `q`. -/
theorem qPulse_of_faulted {i : Instr} {s t : State} (hnext : exec i s = .next t) (hfaulted : t.ERR = true) :
    qPulse i s = none := by
  cases i <;> simp [qPulse, hnext, completed_next_of_faulted hfaulted]

theorem soPulse_of_faulted {i : Instr} {s t : State} (hnext : exec i s = .next t) (hfaulted : t.ERR = true) :
    soPulse i s = none := by
  cases i <;> simp [soPulse, hnext, completed_next_of_faulted hfaulted]

/-- Settles O29: no pulse where the command leaves ERR = 1, and otherwise the pulse of the command's effect. -/
theorem tracesRecordThePulses : Obligations.TracesRecordThePulses := by
  intro i s t hnext
  cases commandEffect_of_exec_next hnext with
  | ignored hERR => simp [qPulse_of_faulted hnext hERR, soPulse_of_faulted hnext hERR]
  | raised c =>
    simp [qPulse_of_faulted hnext (s.takeFault_ERR c), soPulse_of_faulted hnext (s.takeFault_ERR c)]
  | ldseed hrun => simp [qPulse_of_exec_next (.inl rfl) hnext hrun, soPulse]
  | lstep hrun => simp [qPulse_of_exec_next (.inr (.inl rfl)) hnext hrun, soPulse]
  | mstep hrun => simp [qPulse_of_exec_next (.inr (.inr rfl)) hnext hrun, soPulse]
  | shout hrun hOCNT hOBUF => simp [soPulse_of_exec_next hOBUF hnext hrun, qPulse]
  | nop | iclr | shin | ldtaps | ldmode | build | oload => simp [qPulse, soPulse]

/-! ### T during a run (R150), idempotence (R43), and what BUILD depends on (R77) -/

/-- Settles O30: only BUILD's effect writes T, and it clears SV; only LDSEED's sets SV. -/
theorem matrixIsFixedDuringRun : Obligations.MatrixIsFixedDuringRun := by
  intro i s t hnext
  cases commandEffect_of_exec_next hnext with
  | build => simp
  | ldseed => simp
  | ignored | raised | nop | iclr | shin | ldtaps | ldmode | lstep | mstep | oload | shout => simp +contextual

/-- Settles O31: after a fault nothing changes, and the second write of each command finds its own values. -/
theorem fiveCommandsAreIdempotent : Obligations.FiveCommandsAreIdempotent := by
  intro i s t hi hnext
  cases commandEffect_of_exec_next hnext with
  | ignored => exact hnext
  | raised c => exact exec_of_faulted (s.takeFault_ERR c) i
  | nop => exact hnext
  | iclr hrun => exact execIclr_next.mpr (.inr ⟨hrun, rfl⟩)
  | ldmode hrun htoken => exact execLdmode_next.mpr (.inr ⟨hrun, .inl ⟨_, htoken, rfl⟩⟩)
  | build hrun hKV hTAPS => exact execBuild_next.mpr (.inr ⟨hrun, .inr ⟨hKV, _, hTAPS, rfl⟩⟩)
  | oload hrun hSV hS => exact execOload_next.mpr (.inr ⟨hrun, .inr ⟨hSV, _, hS, rfl⟩⟩)
  | shin | ldtaps | ldseed | lstep | mstep | shout => simp at hi

/-- A BUILD that takes no fault writes the matrix of N, TAPS and MODE. -/
theorem build_next_T {s t : State} (hnext : exec .build s = .next t) (hrun : t.ERR = false) :
    t.T = s.TAPS.map fun taps => buildMatrix s.n taps s.MODE := by
  cases commandEffect_of_exec_next hnext with
  | ignored hERR => simp [hERR] at hrun
  | raised c => simp at hrun
  | build _ _ hTAPS => simp [hTAPS]

/-- Settles O32: the matrix either BUILD writes is that of one N, TAPS and MODE. -/
theorem buildDependsOnTapsAndMode : Obligations.BuildDependsOnTapsAndMode := by
  intro s s' t t' hcfg hTAPS hMODE hnext hnext' hrun hrun'
  rw [build_next_T hnext hrun, build_next_T hnext' hrun', hTAPS, hMODE, State.n, State.n, hcfg]

end Sys2Proof.Machine
end

section
/-!
PROOFS. The step (R121) and the invariants of R35 and R36: every effect of a command keeps a coherent state coherent,
and in a coherent state every command has a next state; so a run from reset goes on through coherent states for as long
as the host acts, and an interleaving of coherent cores gives each of them what it would do by itself (R48).
-/

namespace Sys2Proof.Machine

/-! ### One step -/

/-- Settles O8: a step executes the next action. -/
theorem stepRunsTheDecodedCommand : Obligations.StepRunsTheDecodedCommand := by
  refine ⟨fun s cw rest i hinputs hlegal => ?decoded, fun s cw rest hinputs => step_action hinputs,
    fun s rest hinputs => step_action hinputs⟩
  case decoded => rw [step_action hinputs, executeAction_command, executeWord_of_decode_ok hlegal]

/-- Settles O10: the idle step. -/
theorem noActionChangesNothing : Obligations.NoActionChangesNothing :=
  fun _ hinputs => step_idle hinputs

/-- A word that is executed leaves what a command leaves, or what an illegal word leaves. -/
theorem executeWord_next {cw : Word} {s t : State} (hnext : executeWord cw s = .next t) :
    (∃ i, exec i s = .next t) ∨ t = s ∨ t = s.takeFault .illegal := by
  cases hdecode : decode cw with
  | ok i =>
    rw [executeWord_of_decode_ok hdecode] at hnext
    exact .inl ⟨i, hnext⟩
  | error e =>
    rw [executeWord_of_decode_error hdecode] at hnext
    obtain ⟨-, rfl⟩ | ⟨-, rfl⟩ := execIllegal_next.mp hnext
    · exact .inr (.inl rfl)
    · exact .inr (.inr rfl)

/-- A host action leaves what a command leaves, what an illegal word leaves, or the reset state. -/
theorem executeAction_next {a : HostAction} {s t : State} (hnext : executeAction a s = .next t) :
    (∃ i, exec i s = .next t) ∨ t = s ∨ t = s.takeFault .illegal ∨ t = s.takeReset := by
  cases a with
  | command cw =>
    obtain hcommand | rfl | rfl := executeWord_next hnext
    · exact .inl hcommand
    · exact .inr (.inl rfl)
    · exact .inr (.inr (.inl rfl))
  | reset => exact .inr (.inr (.inr (Host.Outcome.next.inj hnext).symm))

theorem executeAction_next_inputs {a : HostAction} {s t : State} (hnext : executeAction a s = .next t) :
    t.inputs = s.inputs := by
  obtain ⟨i, hi⟩ | rfl | rfl | rfl := executeAction_next hnext
  · exact exec_next_inputs hi
  · rfl
  · rfl
  · rfl

theorem executeAction_next_cfg {a : HostAction} {s t : State} (hnext : executeAction a s = .next t) :
    t.cfg = s.cfg := by
  obtain ⟨i, hi⟩ | rfl | rfl | rfl := executeAction_next hnext
  · exact exec_next_cfg hi
  · rfl
  · rfl
  · rfl

/-! ### Every step keeps a coherent state coherent (R35) -/

theorem exec_keeps_inv {i : Instr} {s t : State} (hs : s.Inv) (hnext : exec i s = .next t) : t.Inv := by
  cases commandEffect_of_exec_next hnext with
  | ignored => exact hs
  | raised c => exact State.takeFault_inv hs c
  | nop => exact hs
  | iclr => exact State.clearInput_inv hs
  | shin b => exact State.shiftIn_inv hs b
  | ldtaps _ hIBUF => exact State.clearInput_inv (State.loadTaps_inv hs hIBUF)
  | ldmode => exact State.setMode_inv hs _
  | build _ hKV hTAPS => exact State.installMatrix_inv hs hKV (hs.taps_length _ hTAPS) _
  | ldseed _ hTV hIBUF => exact State.clearInput_inv (State.startRun_inv hs hTV hIBUF)
  | lstep _ hSV => exact State.advance_inv hs hSV (length_matvec s.n _ _)
  | mstep _ hSV _ _ _ hIBUF =>
    exact State.clearInput_inv (State.advance_inv hs hSV (length_xorVec_matvec _ _ hIBUF))
  | oload _ _ hS => exact State.capture_inv hs (hs.s_length _ hS)
  | shout _ _ hOBUF => exact State.shiftOut_inv hs (hs.obuf_length _ hOBUF)

theorem executeAction_keeps_inv {a : HostAction} {s t : State} (hs : s.Inv)
    (hnext : executeAction a s = .next t) : t.Inv := by
  obtain ⟨i, hi⟩ | rfl | rfl | rfl := executeAction_next hnext
  · exact exec_keeps_inv hs hi
  · exact hs
  · exact State.takeFault_inv hs .illegal
  · exact State.takeReset_inv

/-- Settles O34: an idle step keeps the state, and the action of any other keeps coherence. -/
theorem stepKeepsCoherence : Obligations.StepKeepsCoherence := by
  intro s t hs hnext
  cases hinputs : s.inputs with
  | nil =>
    rw [step_idle hinputs] at hnext
    exact Host.Outcome.next.inj hnext ▸ hs
  | cons a rest =>
    rw [step_action hinputs] at hnext
    exact executeAction_keeps_inv (State.inputs_inv hs rest) hnext

theorem resetOf_inv (cfg : Config) : (State.resetOf cfg).Inv :=
  State.takeReset_resetOf cfg ▸ State.takeReset_inv

/-- Settles O33: the reset state of any width is the outcome of a reset action, which is coherent. -/
theorem resetIsCoherent : Obligations.ResetIsCoherent :=
  ⟨resetOf_inv, resetOf_inv Config.scenario⟩

/-! ### In a coherent state every step has a next state (R36)

`Answers` is kept by each operation a meaning is built of. -/

/-- The result is a next state: the core has not stopped. -/
def Answers (r : Result) : Prop := ∃ t, r = .next t

theorem next_answers (t : State) : Answers (.next t) := ⟨t, rfl⟩

theorem unlessFaulted_answers {s : State} {r : Result} (h : Answers r) : Answers (unlessFaulted s r) := by
  unfold unlessFaulted
  split
  · exact next_answers s
  · exact h

/-- A check that fails answers too: a fault of the core is a next state. -/
theorem require_answers {ok : Bool} {c : ErrCode} {s : State} {r : Result} (h : ok = true → Answers r) :
    Answers (require ok c s r) := by
  cases ok with
  | false => exact next_answers _
  | true => exact h rfl

theorem need_answers {α : Type} {reg : ValueRegister} {x : Option α} {k : α → Result} (hx : x.isSome = true)
    (h : ∀ a, x = some a → Answers (k a)) : Answers (need reg x k) := by
  obtain ⟨a, rfl⟩ := Option.isSome_iff_exists.mp hx
  exact h a rfl

theorem inputVector_isSome {s : State} {k : Nat} (hlen : s.IBUF.length = k) : (s.inputVector k).isSome = true := by
  simp [State.inputVector, hlen]

theorem exec_answers {s : State} (hs : s.Inv) (i : Instr) : Answers (exec i s) := by
  have hwidth : 0 < s.n := s.cfg.n_pos
  have hIBUF := hs.ibuf_length
  have hS : s.SV = true → s.S.isSome = true := fun hSV => hs.sv_s ▸ hSV
  have hT : s.SV = true → s.T.isSome = true := fun hSV => hs.tv_t ▸ hs.sv_tv hSV
  cases i with
  | nop => exact unlessFaulted_answers (next_answers s)
  | iclr => exact unlessFaulted_answers (next_answers _)
  | shin b => exact unlessFaulted_answers (next_answers _)
  | ldtaps =>
    refine unlessFaulted_answers <| require_answers fun hICNT => ?_
    have hfit : s.ICNT + 1 = s.n := by simpa using hICNT
    exact need_answers (inputVector_isSome (by omega)) fun v _ => next_answers _
  | ldmode m =>
    refine unlessFaulted_answers ?_
    cases Mode.ofToken m with
    | none => exact next_answers _
    | some mode => exact next_answers _
  | build =>
    refine unlessFaulted_answers <| require_answers fun hKV => ?_
    exact need_answers (hs.kv_taps ▸ hKV) fun taps _ => next_answers _
  | ldseed =>
    refine unlessFaulted_answers <| require_answers fun hTV => require_answers fun hICNT => ?_
    have hfit : s.ICNT = s.n := by simpa using hICNT
    exact need_answers (inputVector_isSome (by omega)) fun v _ => next_answers _
  | lstep =>
    refine unlessFaulted_answers <| require_answers fun hSV => ?_
    exact need_answers (hT hSV) fun m _ => need_answers (hS hSV) fun v _ => next_answers _
  | mstep =>
    refine unlessFaulted_answers <| require_answers fun hrunning => require_answers fun hICNT => ?_
    obtain ⟨hSV, -⟩ := Bool.and_eq_true_iff.mp hrunning
    have hfit : s.ICNT = s.n := by simpa using hICNT
    exact need_answers (hT hSV) fun m _ => need_answers (hS hSV) fun v _ =>
      need_answers (inputVector_isSome (by omega)) fun r _ => next_answers _
  | oload =>
    refine unlessFaulted_answers <| require_answers fun hSV => ?_
    exact need_answers (hS hSV) fun v _ => next_answers _
  | shout =>
    refine unlessFaulted_answers <| require_answers fun hOCNT => ?_
    have hsome : s.OCNT ≠ 0 := by simpa using hOCNT
    refine need_answers (hs.ocnt_obuf hsome) fun v hv => ?_
    obtain ⟨b, rest, rfl⟩ := List.exists_cons_of_length_pos ((hs.obuf_length v hv).symm ▸ hwidth)
    exact next_answers _

theorem executeAction_answers {s : State} (hs : s.Inv) (a : HostAction) : Answers (executeAction a s) := by
  cases a with
  | command cw =>
    rw [executeAction_command]
    cases hdecode : decode cw with
    | ok i => rw [executeWord_of_decode_ok hdecode]; exact exec_answers hs i
    | error e => rw [executeWord_of_decode_error hdecode]; exact unlessFaulted_answers (next_answers _)
  | reset => exact next_answers s.takeReset

/-- Settles O35: an idle step answers, and so does the action of any other. -/
theorem coherentStepNeverStops : Obligations.CoherentStepNeverStops := by
  intro s hs
  cases hinputs : s.inputs with
  | nil => exact ⟨s, step_idle hinputs⟩
  | cons a rest =>
    rw [step_action hinputs]
    exact executeAction_answers (State.inputs_inv hs rest) a

/-! ### Runs (R45) -/

theorem run_succ {s t : State} (hstep : step s = .next t) (k : Nat) : run (k + 1) s = run k t := by
  rw [run, hstep]

/-- A coherent state performs all the actions it has to come, one step each. -/
theorem run_inputs_coherent (actions : List HostAction) {s : State} (hs : s.Inv) (hinputs : s.inputs = actions) :
    ∃ t, run actions.length s = .next t ∧ t.Inv ∧ t.inputs = [] ∧ t.cfg = s.cfg := by
  induction actions generalizing s with
  | nil => exact ⟨s, rfl, hs, hinputs, rfl⟩
  | cons a rest ih =>
    obtain ⟨u, hu⟩ := executeAction_answers (State.inputs_inv hs rest) a
    obtain ⟨t, hrun, ht, hdone, hcfg⟩ :=
      ih (executeAction_keeps_inv (State.inputs_inv hs rest) hu) (executeAction_next_inputs hu)
    refine ⟨t, ?_, ht, hdone, hcfg.trans (executeAction_next_cfg hu :)⟩
    rw [List.length_cons, run_succ ((step_action hinputs).trans hu), hrun]

/-- Settles O36: the reset state with any actions to come is coherent. -/
theorem runFromResetIsCoherent : Obligations.RunFromResetIsCoherent :=
  fun cfg actions => run_inputs_coherent actions (State.inputs_inv (resetOf_inv cfg) actions) rfl

/-! ### Several cores (R9, R48) -/

theorem stepAlone_of_step_next {s t : State} (hstep : step s = .next t) : s.stepAlone = t := by
  simp [State.stepAlone, hstep, nextState]

theorem stepAlone_inv {s : State} (hs : s.Inv) : s.stepAlone.Inv := by
  obtain ⟨t, hstep⟩ := coherentStepNeverStops s hs
  rw [stepAlone_of_step_next hstep]
  exact stepKeepsCoherence s t hs hstep

theorem stepInstance_getElem? (sys : List State) (j k : Nat) :
    (stepInstance sys j)[k]? = if j = k then sys[k]?.map State.stepAlone else sys[k]? := by
  rw [stepInstance, List.getElem?_modify]
  split_ifs <;> simp

theorem stepInstance_inv {sys : List State} (hsys : ∀ x ∈ sys, x.Inv) (j : Nat) : ∀ x ∈ stepInstance sys j, x.Inv := by
  intro x hx
  obtain ⟨k, hk⟩ := List.mem_iff_getElem?.mp hx
  rw [stepInstance_getElem?] at hk
  split_ifs at hk
  · obtain ⟨y, hy, rfl⟩ := Option.map_eq_some_iff.mp hk
    exact stepAlone_inv (hsys y (List.mem_of_getElem? hy))
  · exact hsys x (List.mem_of_getElem? hk)

/-- Settles O58: by induction on the schedule; a turn of core `k` is the first of its steps, and a turn of another does
not touch it. -/
theorem instancesAreIndependent : Obligations.InstancesAreIndependent := by
  intro schedule
  induction schedule with
  | nil => exact fun sys k s _ hk => ⟨s, rfl, hk⟩
  | cons j rest ih =>
    intro sys k s hsys hk
    have hturn := stepInstance_getElem? sys j k
    by_cases hjk : j = k
    · obtain ⟨u, hstep⟩ := coherentStepNeverStops s (hsys s (List.mem_of_getElem? hk))
      rw [if_pos hjk, hk, Option.map_some, stepAlone_of_step_next hstep] at hturn
      obtain ⟨t, hrun, ht⟩ := ih (stepInstance sys j) k u (stepInstance_inv hsys j) hturn
      refine ⟨t, ?_, ht⟩
      rw [hjk, List.count_cons_self, run_succ hstep, hrun]
    · rw [if_neg hjk, hk] at hturn
      obtain ⟨t, hrun, ht⟩ := ih (stepInstance sys j) k s (stepInstance_inv hsys j) hturn
      exact ⟨t, by rw [List.count_cons_of_ne hjk, hrun], ht⟩

end Sys2Proof.Machine
end

section
/-!
PROOFS. The ports (10_state.md sections 6 and 7): STATUS bit by bit (R30), and `q`, `tmat` and `err` (R31, R39).
-/

namespace Sys2Proof.Machine

/-- Settles O37: the fields of STATUS stand one after the other. -/
theorem statusShowsTheFlags : Obligations.StatusShowsTheFlags := by
  intro s
  refine ⟨?KV, ?TV, ?SV, ?TM, s.status_getLsbD_four, fun k hk => ?ERRCODE⟩
  case KV | TV | SV =>
    simp only [State.status, flagBit, BitVec.getLsbD_append]
    simp
  case TM =>
    simp only [State.status, flagBit, BitVec.getLsbD_append]
    cases s.TM <;> simp [Mode.bit]
  case ERRCODE =>
    have hcode := congrArg (fun code : BitVec 3 => code.getLsbD k) s.status_extractLsb'_five_three
    simpa [hk] using hcode

/-- The element of `tmat` that stands for row `i` and column `j` (R39). -/
theorem bitAt_row_major {n i j : Nat} (m : Mat) (hi : i < n) (hj : j < n) :
    bitAt (mkVec (n * n) fun k => entry m (k / n) (k % n)) (i * n + j) = entry m i j := by
  have hbound : i * n + j < n * n := by
    calc i * n + j < i * n + n := by omega
      _ = (i + 1) * n := (Nat.succ_mul i n).symm
      _ ≤ n * n := Nat.mul_le_mul_right n hi
  have hrow : (i * n + j) / n = i := by
    rw [Nat.add_comm, Nat.add_mul_div_right _ _ (by omega), Nat.div_eq_of_lt hj, Nat.zero_add]
  have hcolumn : (i * n + j) % n = j := by rw [Nat.add_comm, Nat.add_mul_mod_self_right, Nat.mod_eq_of_lt hj]
  rw [bitAt_mkVec _ hbound, hrow, hcolumn]

/-- Settles O38: the ports by the valid flags, and `tmat` row by row. -/
theorem portsShowTheState : Obligations.PortsShowTheState := by
  intro s
  refine ⟨fun hSV => if_pos hSV, fun hSV => if_neg (by simp [hSV]), fun hTV => if_neg (by simp [hTV]),
    s.status_getLsbD_four.symm, fun m hTV hT => ?matrix⟩
  case matrix =>
    refine ⟨mkVec (s.n * s.n) fun k => entry m (k / s.n) (k % s.n), ?_, length_mkVec _ _,
      fun i j hi hj => bitAt_row_major m hi hj⟩
    simp [State.tmat, hTV, hT]

end Sys2Proof.Machine
end

section
/-!
PROOFS. The step the built matrix defines (40_matrix_builder.md section 1, 41_lfsr_generator.md sections 4, 6 and 7):
its closed forms (R84, R85), its inverse (R94), linearity and the zero vector (R90, R93), and the shape of the
matrix (R72).
-/

namespace Sys2Proof.Machine

/-! ### The closed forms (R84, R85) -/

section ClosedForms

variable {n : Nat} {taps : Vec} (htaps : taps.length + 1 = n) (v : Vec)
include htaps

/-- Row 0 of the SHIFT matrix has its only one in the last column. -/
theorem bitAt_matvec_shift_zero : bitAt (matvec n (buildMatrix n taps .shift) v) 0 = bitAt v (n - 1) := by
  rw [bitAt_matvec _ _ (by omega), xorSum_single (p := n - 1) (by omega)]
  · rw [buildMatrix, entry_canon_tap_or_subdiagonal taps (by omega) (by omega)]
    simp [show n - 1 + 1 = n by omega]
  · intro j hj hlast
    rw [buildMatrix, entry_canon_tap_or_subdiagonal taps (by omega) hj]
    simp [show j + 1 ≠ n by omega]

/-- Every other row has a one on the sub-diagonal and a tap in the last column. -/
theorem bitAt_matvec_shift_succ {i : Nat} (hi : i + 1 < n) :
    bitAt (matvec n (buildMatrix n taps .shift) v) (i + 1) = (bitAt v i ^^ (bitAt taps i && bitAt v (n - 1))) := by
  subst htaps
  have hentry : ∀ j < taps.length + 1, entry (buildMatrix (taps.length + 1) taps .shift) (i + 1) j =
      if j = taps.length then bitAt taps i else decide (i = j) := by
    intro j hj
    rw [buildMatrix, entry_canon_tap_or_subdiagonal taps hi hj]
    simp
  rw [bitAt_matvec _ _ hi, xorSum, xorSum_single (p := i) (by omega)]
  · simp [hentry i (by omega), hentry taps.length (by omega), show i ≠ taps.length by omega]
  · intro j hj hji
    simp [hentry j (by omega), show j ≠ taps.length by omega, hji.symm]

/-- The last row of the EXTERNAL matrix is the tap vector. -/
theorem bitAt_matvec_external_last :
    bitAt (matvec n (buildMatrix n taps .external) v) (n - 1) =
      (bitAt v 0 ^^ xorSum (n - 1) fun j => bitAt taps j && bitAt v (j + 1)) := by
  subst htaps
  have hentry : ∀ j < taps.length + 1, entry (buildMatrix (taps.length + 1) taps .external) taps.length j =
      if j = 0 then true else bitAt taps (j - 1) := by
    intro j hj
    rw [buildMatrix, entry_transpose _ (by omega) hj, entry_canon_tap_or_subdiagonal taps hj (by omega), if_pos rfl]
  rw [Nat.add_sub_cancel, bitAt_matvec _ _ (by omega), xorSum_succ_left, hentry 0 (by omega)]
  congr 1
  refine xorSum_congr fun j hj => ?_
  rw [hentry (j + 1) (by omega), if_neg (by omega), Nat.add_sub_cancel]

end ClosedForms

/-- The rows of the EXTERNAL matrix above the last have their only one on the super-diagonal. -/
theorem bitAt_matvec_external_of_lt {n i : Nat} (taps v : Vec) (hi : i + 1 < n) :
    bitAt (matvec n (buildMatrix n taps .external) v) i = bitAt v (i + 1) := by
  have hentry : ∀ j < n, entry (buildMatrix n taps .external) i j = decide (j = i + 1) := by
    intro j hj
    rw [buildMatrix, entry_transpose _ (by omega) hj, entry_canon_tap_or_subdiagonal taps hj (by omega),
      if_neg (by omega)]
  rw [bitAt_matvec _ _ (by omega), xorSum_single (p := i + 1) hi]
  · simp [hentry (i + 1) hi]
  · intro j hj hne
    simp [hentry j hj, hne]

/-- Settles O40: row 0 and the rows below it. -/
theorem shiftStepClosedForm : Obligations.ShiftStepClosedForm := by
  intro n taps v htaps _
  refine ⟨bitAt_matvec_shift_zero htaps v, fun i hpos hi => ?_⟩
  obtain ⟨k, rfl⟩ := Nat.exists_eq_add_of_le' hpos
  exact bitAt_matvec_shift_succ htaps v hi

/-- Settles O41: the rows above the last, and the last row. -/
theorem externalStepClosedForm : Obligations.ExternalStepClosedForm :=
  fun _ taps v htaps _ => ⟨fun _ hi => bitAt_matvec_external_of_lt taps v hi, bitAt_matvec_external_last htaps v⟩

/-- Settles O42: MSTEP leaves the product with the response XORed in, and the product is in closed form. -/
theorem misrStepClosedForm : Obligations.MisrStepClosedForm := by
  intro s taps v hrun hSV hTM htaps hT hS hlen hICNT hIBUF
  obtain ⟨hzero, hsucc⟩ := shiftStepClosedForm s.n taps v htaps hlen
  have hbits : ∀ i, bitAt (xorVec (matvec s.n (buildMatrix s.n taps .shift) v) s.IBUF) i =
      (bitAt (matvec s.n (buildMatrix s.n taps .shift) v) i ^^ bitAt s.IBUF i) :=
    fun i => bitAt_xorVec ((length_matvec s.n _ v).trans hIBUF.symm)
  refine ⟨xorVec (matvec s.n (buildMatrix s.n taps .shift) v) s.IBUF, ?next, length_xorVec_matvec _ v hIBUF, ?zero,
    fun i hpos hi => ?succ⟩
  case next => exact execMstep_next.mpr (.inr ⟨hrun, .inr (.inr ⟨hSV, hTM, hICNT, hIBUF, _, v, hT, hS, rfl⟩)⟩)
  case zero => rw [hbits, hzero]
  case succ => rw [hbits, hsucc i hpos hi]

/-! ### The inverse (R94) -/

theorem bitAt_of_matvec_shift {n : Nat} {taps : Vec} (htaps : taps.length + 1 = n) (v : Vec) {i : Nat}
    (hi : i + 1 < n) :
    bitAt v i = (bitAt (matvec n (buildMatrix n taps .shift) v) (i + 1) ^^
      (bitAt taps i && bitAt (matvec n (buildMatrix n taps .shift) v) 0)) := by
  rw [bitAt_matvec_shift_succ htaps v hi, bitAt_matvec_shift_zero htaps v, Bool.xor_assoc, Bool.xor_self,
    Bool.xor_false]

theorem bitAt_zero_of_matvec_external {n : Nat} {taps : Vec} (htaps : taps.length + 1 = n) (v : Vec) :
    bitAt v 0 = (bitAt (matvec n (buildMatrix n taps .external) v) (n - 1) ^^
      xorSum (n - 1) fun j => bitAt taps j && bitAt (matvec n (buildMatrix n taps .external) v) j) := by
  have hsum : (xorSum (n - 1) fun j => bitAt taps j && bitAt (matvec n (buildMatrix n taps .external) v) j) =
      xorSum (n - 1) fun j => bitAt taps j && bitAt v (j + 1) :=
    xorSum_congr fun j hj => by rw [bitAt_matvec_external_of_lt taps v (by omega)]
  rw [hsum, bitAt_matvec_external_last htaps v, Bool.xor_assoc, Bool.xor_self, Bool.xor_false]

/-- No two states step to the same state: the inverse formulas give every element of the old state. -/
theorem matvec_buildMatrix_injective {n : Nat} {taps v v' : Vec} {mode : Mode} (htaps : taps.length + 1 = n)
    (hv : v.length = n) (hv' : v'.length = n)
    (hsame : matvec n (buildMatrix n taps mode) v = matvec n (buildMatrix n taps mode) v') : v = v' := by
  refine vec_ext (hv.trans hv'.symm) fun i hi => ?_
  rw [hv] at hi
  cases mode with
  | shift =>
    by_cases hlast : i + 1 < n
    · rw [bitAt_of_matvec_shift htaps v hlast, hsame, ← bitAt_of_matvec_shift htaps v' hlast]
    · obtain rfl : i = n - 1 := by omega
      rw [← bitAt_matvec_shift_zero htaps v, hsame, bitAt_matvec_shift_zero htaps v']
  | external =>
    cases i with
    | zero => rw [bitAt_zero_of_matvec_external htaps v, hsame, ← bitAt_zero_of_matvec_external htaps v']
    | succ k => rw [← bitAt_matvec_external_of_lt taps v hi, hsame, bitAt_matvec_external_of_lt taps v' hi]

/-- Settles O45: the inverse formulas of the two modes, and injectivity from them. -/
theorem stepCanBeUndone : Obligations.StepCanBeUndone := by
  intro n taps v htaps hv
  refine ⟨⟨(bitAt_matvec_shift_zero htaps v).symm, fun i hpos hi => ?shift⟩,
    ⟨fun i hi => (bitAt_matvec_external_of_lt taps v hi).symm, bitAt_zero_of_matvec_external htaps v⟩,
    fun mode v' hv' => matvec_buildMatrix_injective htaps hv hv'⟩
  case shift =>
    obtain ⟨k, rfl⟩ := Nat.exists_eq_add_of_le' hpos
    exact bitAt_of_matvec_shift htaps v hi

/-! ### The step as a permutation of the vectors of N bits (R72 (e), R94) -/

/-- The step on the finite type of vectors of `n` bits. -/
def stepVector (n : Nat) (m : Mat) (v : List.Vector Bit n) : List.Vector Bit n :=
  ⟨matvec n m v.toList, length_matvec n m v.toList⟩

@[simp] theorem toList_stepVector (n : Nat) (m : Mat) (v : List.Vector Bit n) :
    (stepVector n m v).toList = matvec n m v.toList := rfl

theorem toList_iterate_stepVector (n : Nat) (m : Mat) (v : List.Vector Bit n) (k : Nat) :
    ((stepVector n m)^[k] v).toList = lfsrState n m v.toList k := by
  induction k with
  | zero => rfl
  | succ k ih => rw [Function.iterate_succ_apply', toList_stepVector, ih, lfsrState]

theorem stepVector_injective {n : Nat} {taps : Vec} (htaps : taps.length + 1 = n) (mode : Mode) :
    Function.Injective (stepVector n (buildMatrix n taps mode)) := by
  intro v v' hsame
  exact List.Vector.toList_injective (matvec_buildMatrix_injective htaps v.toList_length v'.toList_length
    (congrArg List.Vector.toList hsame))

/-- An injective step on a finite type reaches every vector. -/
theorem exists_unique_predecessor {n : Nat} {taps w : Vec} (htaps : taps.length + 1 = n) (mode : Mode)
    (hw : w.length = n) :
    ∃ v : Vec, v.length = n ∧ matvec n (buildMatrix n taps mode) v = w ∧
      ∀ v' : Vec, v'.length = n → matvec n (buildMatrix n taps mode) v' = w → v' = v := by
  obtain ⟨v, hv⟩ := Finite.surjective_of_injective (stepVector_injective htaps mode) ⟨w, hw⟩
  have hstep : matvec n (buildMatrix n taps mode) v.toList = w := congrArg List.Vector.toList hv
  exact ⟨v.toList, v.toList_length, hstep, fun v' hv' hsame =>
    matvec_buildMatrix_injective htaps hv' v.toList_length (hsame.trans hstep.symm)⟩

/-- Settles O46: an injective map of a finite type is periodic at every point, and before the minimal period no point
recurs. -/
theorem historyIsPurelyPeriodic : Obligations.HistoryIsPurelyPeriodic := by
  intro n taps seed mode htaps hseed
  let f := stepVector n (buildMatrix n taps mode)
  let x : List.Vector Bit n := ⟨seed, hseed⟩
  have hstate : ∀ k, lfsrState n (buildMatrix n taps mode) seed k = (f^[k] x).toList :=
    fun k => (toList_iterate_stepVector n _ x k).symm
  refine ⟨Function.minimalPeriod f x, ?positive, ?recurs, fun i j hij hj => ?distinct⟩
  case positive =>
    exact Function.minimalPeriod_pos_of_mem_periodicPts ((stepVector_injective htaps mode).mem_periodicPts x)
  case recurs => rw [hstate, Function.iterate_minimalPeriod]; rfl
  case distinct =>
    rw [hstate, hstate]
    intro hsame
    exact hij.ne (Function.iterate_injOn_Iio_minimalPeriod (hij.trans hj) hj (List.Vector.toList_injective hsame))

/-! ### Linearity and the zero vector (R90, R93) -/

/-- Settles O43: element by element, a sum of XORs is the XOR of the sums. -/
theorem stepIsLinear : Obligations.StepIsLinear := by
  intro n m a b ha hb
  refine vec_ext (by simp) fun i hi => ?_
  rw [length_matvec] at hi
  rw [bitAt_xorVec (by simp), bitAt_matvec _ _ hi, bitAt_matvec _ _ hi, bitAt_matvec _ _ hi, ← xorSum_xor]
  refine xorSum_congr fun j _ => ?_
  rw [bitAt_xorVec (ha.trans hb.symm), Bool.and_xor_distrib_left]

theorem matvec_zeroVec (n : Nat) (m : Mat) : matvec n m (zeroVec n) = zeroVec n := by
  refine vec_ext (by simp) fun i hi => ?_
  rw [length_matvec] at hi
  simp [bitAt_matvec _ _ hi, bitAt_zeroVec, xorSum_false]

/-- Settles O44: the product with the zero vector, step by step and in LSTEP. -/
theorem zeroStateIsFixed : Obligations.ZeroStateIsFixed := by
  refine ⟨fun n m k => ?states, fun s m hrun hSV hT hS => ?command⟩
  case states =>
    induction k with
    | zero => rfl
    | succ k ih => rw [lfsrState, ih, matvec_zeroVec]
  case command =>
    refine execLstep_next.mpr (.inr ⟨hrun, .inr ⟨hSV, m, zeroVec s.n, hT, hS, ?_⟩⟩)
    rw [matvec_zeroVec, State.advance, ← hS]

/-! ### The shape of the matrix (R72) -/

/-- The elements of a vector, put into a vector again. -/
theorem mkVec_bitAt (v : Vec) : mkVec v.length (bitAt v) = v :=
  vec_ext (length_mkVec _ _) fun i hi => bitAt_mkVec _ (by rwa [length_mkVec] at hi)

theorem count_true_mkVec (k : Nat) (f : Nat → Bit) : (mkVec k f).count true = ∑ j ∈ Finset.range k, (f j).toNat := by
  induction k with
  | zero => rfl
  | succ k ih =>
    have hlast : mkVec (k + 1) f = mkVec k f ++ [f k] := by simp [mkVec, List.range_succ]
    rw [hlast, List.count_append, ih, Finset.sum_range_succ]
    cases f k <;> rfl

theorem count_true_flatten_mkMat (n : Nat) (f : Nat → Nat → Bit) :
    (mkMat n f).flatten.count true = ∑ i ∈ Finset.range n, ∑ j ∈ Finset.range n, (f i j).toNat := by
  rw [List.count_flatten, mkMat, List.map_map]
  simp only [← count_true_mkVec]
  rfl

/-- A matrix and its transpose have the same ones, counted here column by column of the canonical matrix. -/
theorem count_true_flatten_buildMatrix (n : Nat) (taps : Vec) (mode : Mode) :
    (buildMatrix n taps mode).flatten.count true =
      ∑ j ∈ Finset.range n, ∑ i ∈ Finset.range n, (entry (canon n taps) i j).toNat := by
  cases mode with
  | shift =>
    rw [buildMatrix, Finset.sum_comm, canon, count_true_flatten_mkMat]
    refine Finset.sum_congr rfl fun i hi => Finset.sum_congr rfl fun j hj => ?_
    rw [entry_mkMat _ (Finset.mem_range.mp hi) (Finset.mem_range.mp hj)]
  | external => exact count_true_flatten_mkMat n _

/-- A column before the last holds the one of the sub-diagonal. -/
theorem ones_in_subdiagonal_column {n j : Nat} (taps : Vec) (hj : j + 1 < n) :
    ∑ i ∈ Finset.range n, (entry (canon n taps) i j).toNat = 1 := by
  have hentry : ∀ i < n, entry (canon n taps) i j = decide (i = j + 1) := fun i hi => by
    rw [entry_canon_tap_or_subdiagonal taps hi (by omega), if_neg hj.ne]
  rw [Finset.sum_eq_single_of_mem (j + 1) (Finset.mem_range.mpr hj)]
  · simp [hentry (j + 1) hj]
  · intro i hi hne
    simp [hentry i (Finset.mem_range.mp hi), hne]

/-- The last column is the tap vector. -/
theorem ones_in_tap_column (taps : Vec) :
    ∑ i ∈ Finset.range (taps.length + 1), (entry (canon (taps.length + 1) taps) i taps.length).toNat =
      1 + taps.count true := by
  have hentry : ∀ i ∈ Finset.range (taps.length + 1),
      (entry (canon (taps.length + 1) taps) i taps.length).toNat = (bitAt (tapVector taps) i).toNat := fun i hi => by
    rw [entry_canon taps (Finset.mem_range.mp hi) (by omega), if_pos (Nat.add_sub_cancel _ _).symm]
  rw [Finset.sum_congr rfl hentry, ← count_true_mkVec, show taps.length + 1 = (tapVector taps).length from rfl,
    mkVec_bitAt, tapVector, List.count_cons_self, Nat.add_comm]

theorem count_true_buildMatrix {n : Nat} {taps : Vec} (mode : Mode) (htaps : taps.length + 1 = n) :
    (buildMatrix n taps mode).flatten.count true = (n - 1) + 1 + taps.count true := by
  subst htaps
  have hcolumns : ∀ j ∈ Finset.range taps.length,
      ∑ i ∈ Finset.range (taps.length + 1), (entry (canon (taps.length + 1) taps) i j).toNat = 1 :=
    fun j hj => ones_in_subdiagonal_column taps (Nat.succ_lt_succ (Finset.mem_range.mp hj))
  rw [count_true_flatten_buildMatrix, Finset.sum_range_succ, Finset.sum_congr rfl hcolumns, ones_in_tap_column]
  simp [Nat.add_assoc]

/-- Settles O39: the ones column by column, the smallest matrices, row and column 0 of the canonical matrix, and the
permutation. -/
theorem matrixShapeFacts : Obligations.MatrixShapeFacts := by
  refine ⟨fun n taps mode => count_true_buildMatrix mode, fun mode => ?widthOne, fun b mode => ?widthTwo,
    fun n taps htaps => ⟨fun j hj => ?rowZero, fun htwo i hi => ?columnZero⟩,
    fun n taps mode w htaps => exists_unique_predecessor htaps mode⟩
  case widthOne => cases mode <;> rfl
  case widthTwo => cases b <;> cases mode <;> rfl
  case rowZero =>
    have hlast : j + 1 = n ↔ j = n - 1 := by omega
    simp [buildMatrix, entry_canon_tap_or_subdiagonal taps (show 0 < n by omega) hj, hlast]
  case columnZero =>
    rw [buildMatrix, entry_canon_tap_or_subdiagonal taps hi (by omega), if_neg (by omega)]

end Sys2Proof.Machine
end

section
/-!
PROOFS. The run-level functions (41_lfsr_generator.md section 5, 42_misr_analyzer.md sections 2 and 3): `generate` and
`compress` for good and for bad arguments (R86 to R88, R99, R100), a response of zeros (R102, R106), and the signature
as a fold of MISR steps, which superposes (R105), is sensitive to one change (R104) and can still collide (R103).
-/

namespace Sys2Proof.Machine

/-! ### The token of a mode (R53) -/

@[simp] theorem Mode.ofToken_token (mode : Mode) : Mode.ofToken mode.token = some mode := by
  cases mode <;> rfl

theorem Mode.exists_token_of_lt_two {m : BitVec 4} (h : m.toNat < 2) : ∃ mode : Mode, m = mode.token := by
  have htoken : m.toNat = 0 ∨ m.toNat = 1 := by omega
  obtain h0 | h1 := htoken
  · exact ⟨.shift, BitVec.eq_of_toNat_eq h0⟩
  · exact ⟨.external, BitVec.eq_of_toNat_eq h1⟩

/-! ### `generate` (R86, R87, R88) -/

@[simp] theorem length_lfsrHistory (n : Nat) (m : Mat) (seed : Vec) (count : Nat) :
    (lfsrHistory n m seed count).length = count := by
  simp [lfsrHistory]

theorem lfsrHistory_getElem? {n i count : Nat} (m : Mat) (seed : Vec) (hi : i < count) :
    (lfsrHistory n m seed count)[i]? = some (lfsrState n m seed i) := by
  simp [lfsrHistory, hi]

/-- Good arguments give a history, for count ≤ 0 the empty one. -/
theorem generate_of_valid {cfg : Config} {taps seed : Vec} (htaps : taps.length + 1 = cfg.n)
    (hseed : seed.length = cfg.n) (count : Int) (mode : Mode) :
    generate cfg taps seed count mode.token =
      .history (lfsrHistory cfg.n (buildMatrix cfg.n taps mode) seed count.toNat) := by
  rw [generate, if_neg (not_not.mpr htaps), if_neg (not_not.mpr hseed), Mode.ofToken_token]
  by_cases hcount : count ≤ 0
  · simp [hcount, Int.toNat_of_nonpos hcount, lfsrHistory]
  · simp [hcount]

theorem generate_eq_configError_iff {cfg : Config} {taps seed : Vec} {count : Int} {token : BitVec 4} :
    generate cfg taps seed count token = .configError ↔
      taps.length + 1 ≠ cfg.n ∨ seed.length ≠ cfg.n ∨ 2 ≤ token.toNat := by
  by_cases htaps : taps.length + 1 = cfg.n
  case neg => simp [generate, htaps]
  by_cases hseed : seed.length = cfg.n
  case neg => simp [generate, hseed]
  by_cases htoken : 2 ≤ token.toNat
  case pos => simp [generate, Mode.ofToken_eq_none htoken, htoken]
  obtain ⟨mode, rfl⟩ := Mode.exists_token_of_lt_two (Nat.lt_of_not_le htoken)
  simp [generate_of_valid htaps hseed, htaps, hseed, htoken]

/-! ### `compress` (R99, R100) -/

@[simp] theorem length_misrHistory (n : Nat) (m : Mat) (seed : Vec) (responses : List Vec) :
    (misrHistory n m seed responses).length = responses.length + 1 := by
  simp [misrHistory]

theorem misrHistory_getElem? {n i : Nat} (m : Mat) (seed : Vec) {responses : List Vec} (hi : i ≤ responses.length) :
    (misrHistory n m seed responses)[i]? = some (misrState n m seed responses i) := by
  simp [misrHistory, Nat.lt_succ_of_le hi]

theorem compress_of_valid {cfg : Config} {taps seed : Vec} {responses : List Vec} (htaps : taps.length + 1 = cfg.n)
    (hseed : seed.length = cfg.n) (hresponses : ∀ r ∈ responses, r.length = cfg.n) :
    compress cfg taps seed responses =
      .history (misrHistory cfg.n (buildMatrix cfg.n taps .shift) seed responses) := by
  simpa [compress, htaps, hseed] using hresponses

theorem compress_eq_configError_iff {cfg : Config} {taps seed : Vec} {responses : List Vec} :
    compress cfg taps seed responses = .configError ↔
      taps.length + 1 ≠ cfg.n ∨ seed.length ≠ cfg.n ∨ ∃ r ∈ responses, r.length ≠ cfg.n := by
  by_cases htaps : taps.length + 1 = cfg.n
  case neg => simp [compress, htaps]
  by_cases hseed : seed.length = cfg.n
  case neg => simp [compress, hseed]
  simp [compress, htaps, hseed]

/-- Settles O48: the two functions on bad arguments, and the elements of their histories on good ones. -/
theorem runLevelFunctionsMeetTheirContracts : Obligations.RunLevelFunctionsMeetTheirContracts := by
  refine ⟨fun cfg taps seed count token => generate_eq_configError_iff,
    fun cfg taps seed count mode htaps hseed => ⟨fun hcount => ?empty, fun hcount => ?history⟩,
    fun cfg taps seed responses => compress_eq_configError_iff,
    fun cfg taps seed responses htaps hseed hresponses => ?compressed⟩
  case empty => simp [generate_of_valid htaps hseed, Int.toNat_of_nonpos hcount, lfsrHistory]
  case history =>
    refine ⟨_, generate_of_valid htaps hseed count mode, length_lfsrHistory _ _ _ _,
      lfsrHistory_getElem? _ _ (by omega), fun i hi => ?_⟩
    rw [lfsrHistory_getElem? _ _ hi, lfsrHistory_getElem? _ _ (Nat.lt_of_succ_lt hi)]
    rfl
  case compressed =>
    refine ⟨_, compress_of_valid htaps hseed hresponses, length_misrHistory _ _ _ _,
      misrHistory_getElem? _ _ (Nat.zero_le _), fun i r hr => ?_⟩
    obtain ⟨hi, -⟩ := List.getElem?_eq_some_iff.mp hr
    rw [misrHistory_getElem? _ _ hi, misrHistory_getElem? _ _ hi.le, misrState, List.getD_eq_getElem?_getD, hr]
    rfl

/-! ### Width 1 (R92) -/

theorem matvec_width_one (mode : Mode) (b : Bit) : matvec 1 (buildMatrix 1 [] mode) [b] = [b] := by
  cases mode <;> cases b <;> rfl

theorem lfsrState_width_one (mode : Mode) (b : Bit) (k : Nat) : lfsrState 1 (buildMatrix 1 [] mode) [b] k = [b] := by
  induction k with
  | zero => rfl
  | succ k ih => rw [lfsrState, ih, matvec_width_one]

/-- Settles O47: the one matrix of width 1 steps a vector to itself. -/
theorem widthOneNeverChanges : Obligations.WidthOneNeverChanges := by
  refine ⟨fun mode b => ⟨by cases mode <;> rfl, matvec_width_one mode b⟩, fun cfg mode b k hn => ?generated,
    fun s mode b hn hrun hSV hT hS => ?command⟩
  case generated =>
    rw [generate_of_valid (by simp [hn]) (by simp [hn]), hn, lfsrHistory, funext (lfsrState_width_one mode b)]
    simp [List.map_const']
  case command =>
    refine execLstep_next.mpr (.inr ⟨hrun, .inr ⟨hSV, _, [b], hT, hS, ?_⟩⟩)
    rw [hn, matvec_width_one, State.advance, ← hS]

/-! ### Responses of zeros (R102, R106) -/

theorem xorVec_zeroVec {n : Nat} {v : Vec} (hv : v.length = n) : xorVec v (zeroVec n) = v := by
  have hlen : v.length = (zeroVec n).length := by simp [hv]
  exact vec_ext (by simp [hv]) fun i _ => by rw [bitAt_xorVec hlen, bitAt_zeroVec, Bool.xor_false]

/-- Settles O49: the response that is XORed in is 0. -/
theorem zeroResponseIsLstep : Obligations.ZeroResponseIsLstep := by
  intro s m v hrun hSV hTM hT hS hICNT hIBUF
  have hlen : s.IBUF.length = s.n := by rw [hIBUF, length_zeroVec]
  have hsame : xorVec (matvec s.n m v) s.IBUF = matvec s.n m v := by rw [hIBUF, xorVec_zeroVec (length_matvec _ _ _)]
  refine ⟨(s.advance (xorVec (matvec s.n m v) s.IBUF)).clearInput, s.advance (matvec s.n m v), ?mstep, ?lstep, ?S,
    ?HIST⟩
  case mstep => exact execMstep_next.mpr (.inr ⟨hrun, .inr (.inr ⟨hSV, hTM, hICNT, hlen, m, v, hT, hS, rfl⟩)⟩)
  case lstep => exact execLstep_next.mpr (.inr ⟨hrun, .inr ⟨hSV, m, v, hT, hS, rfl⟩⟩)
  case S => simp [hsame]
  case HIST => simp [hsame]

theorem misrState_zero_responses {n k i : Nat} (m : Mat) (seed : Vec) (hi : i ≤ k) :
    misrState n m seed (List.replicate k (zeroVec n)) i = lfsrState n m seed i := by
  induction i with
  | zero => rfl
  | succ i ih =>
    rw [misrState, lfsrState, ih (Nat.le_of_succ_le hi), List.getD_replicate _ hi, xorVec_zeroVec (length_matvec _ _ _)]

/-- Settles O50: bad arguments give ConfigError on both sides, and good ones histories with the same elements. -/
theorem zeroResponsesGiveLfsrHistory : Obligations.ZeroResponsesGiveLfsrHistory := by
  intro cfg taps seed k
  have hzeros : ∀ r ∈ List.replicate k (zeroVec cfg.n), r.length = cfg.n := fun r hr => by
    rw [List.eq_of_mem_replicate hr, length_zeroVec]
  by_cases hvalid : taps.length + 1 = cfg.n ∧ seed.length = cfg.n
  case pos =>
    obtain ⟨htaps, hseed⟩ := hvalid
    rw [compress_of_valid htaps hseed hzeros, generate_of_valid htaps hseed, misrHistory, List.length_replicate,
      lfsrHistory, show ((k : Int) + 1).toNat = k + 1 by omega]
    congr 1
    refine List.map_congr_left fun i hi => misrState_zero_responses _ _ ?_
    exact Nat.le_of_lt_succ (List.mem_range.mp hi)
  case neg =>
    have hbad : taps.length + 1 ≠ cfg.n ∨ seed.length ≠ cfg.n := by tauto
    rw [compress_eq_configError_iff.mpr (by tauto), generate_eq_configError_iff.mpr (by tauto)]

/-! ### Superposition (R105) -/

theorem xorSum_and_left (k : Nat) (a : Bit) (e : Nat → Bit) : (a && xorSum k e) = xorSum k fun j => a && e j := by
  induction k with
  | zero => simp [xorSum]
  | succ k ih => rw [xorSum, xorSum, Bool.and_xor_distrib_left, ih]

/-- The order of two sums. -/
theorem xorSum_comm (n k : Nat) (e : Nat → Nat → Bit) :
    (xorSum n fun j => xorSum k fun l => e j l) = xorSum k fun l => xorSum n fun j => e j l := by
  induction n with
  | zero => simp [xorSum, xorSum_false]
  | succ n ih => simp only [xorSum, ih, xorSum_xor]

/-- The product distributes over a vector that is a sum of vectors, element by element. -/
theorem bitAt_matvec_superposition {n k i : Nat} (m : Mat) {x a : Vec} {b : Nat → Vec} (hi : i < n)
    (hx : ∀ j < n, bitAt x j = (bitAt a j ^^ xorSum k fun l => bitAt (b l) j)) :
    bitAt (matvec n m x) i = (bitAt (matvec n m a) i ^^ xorSum k fun l => bitAt (matvec n m (b l)) i) := by
  have hterms : ∀ j < n, (entry m i j && bitAt x j) =
      ((entry m i j && bitAt a j) ^^ xorSum k fun l => entry m i j && bitAt (b l) j) := fun j hj => by
    rw [hx j hj, Bool.and_xor_distrib_left, xorSum_and_left]
  have hproducts : (xorSum k fun l => bitAt (matvec n m (b l)) i) =
      xorSum k fun l => xorSum n fun j => entry m i j && bitAt (b l) j :=
    xorSum_congr fun l _ => bitAt_matvec m (b l) hi
  rw [bitAt_matvec m x hi, bitAt_matvec m a hi, xorSum_congr hterms, xorSum_xor, xorSum_comm, hproducts]

/-- Superposition after the first `k` responses. -/
theorem bitAt_misrState {n k : Nat} (m : Mat) (seed : Vec) {responses : List Vec}
    (hresponses : ∀ r ∈ responses, r.length = n) (hk : k ≤ responses.length) :
    ∀ i < n, bitAt (misrState n m seed responses k) i =
      (bitAt (matpow n m k seed) i ^^
        xorSum k fun l => bitAt (matpow n m (k - (l + 1)) (responses.getD l [])) i) := by
  induction k with
  | zero => intro i _; simp [misrState, matpow, xorSum]
  | succ k ih =>
    intro i hi
    have hr : (responses.getD k []).length = n := by
      rw [List.getD_eq_getElem _ _ hk]
      exact hresponses _ (List.getElem_mem hk)
    have hpowers : ∀ l < k, matvec n m (matpow n m (k - (l + 1)) (responses.getD l [])) =
        matpow n m (k + 1 - (l + 1)) (responses.getD l []) := fun l hl => by
      rw [show k + 1 - (l + 1) = k - (l + 1) + 1 by omega, matpow]
    rw [misrState, bitAt_xorVec ((length_matvec _ _ _).trans hr.symm),
      bitAt_matvec_superposition m hi (ih (Nat.le_of_succ_le hk)), xorSum, Nat.sub_self, matpow, matpow, Bool.xor_assoc]
    congr 2
    exact xorSum_congr fun l hl => by rw [hpowers l hl]

/-- Settles O51: superposition after all responses. -/
theorem signatureIsSuperposition : Obligations.SignatureIsSuperposition :=
  fun _ m seed _ _ hresponses => bitAt_misrState m seed hresponses le_rfl

/-! ### Sensitivity (R104) -/

/-- One MISR step: the product with the response XORed in (R96). -/
def misrStep (n : Nat) (m : Mat) (x r : Vec) : Vec := xorVec (matvec n m x) r

theorem length_misrStep {n : Nat} {r : Vec} (m : Mat) (x : Vec) (hr : r.length = n) : (misrStep n m x r).length = n :=
  length_xorVec_matvec m x hr

theorem misrState_eq_foldl_take {n k : Nat} (m : Mat) (seed : Vec) {responses : List Vec} (hk : k ≤ responses.length) :
    misrState n m seed responses k = (responses.take k).foldl (misrStep n m) seed := by
  induction k with
  | zero => rfl
  | succ k ih =>
    rw [misrState, ih (Nat.le_of_succ_le hk), List.take_succ_eq_append_getElem hk, List.foldl_append,
      List.getD_eq_getElem _ _ hk]
    rfl

/-- The signature of a good run is what the MISR steps over all responses make of the seed. -/
theorem signature_compress {cfg : Config} {taps seed : Vec} {responses : List Vec} (htaps : taps.length + 1 = cfg.n)
    (hseed : seed.length = cfg.n) (hresponses : ∀ r ∈ responses, r.length = cfg.n) :
    (compress cfg taps seed responses).signature =
      some (responses.foldl (misrStep cfg.n (buildMatrix cfg.n taps .shift)) seed) := by
  rw [compress_of_valid htaps hseed hresponses, RunResult.signature, List.getLast?_eq_getElem?, length_misrHistory,
    Nat.add_sub_cancel, misrHistory_getElem? _ _ le_rfl, misrState_eq_foldl_take _ _ le_rfl, List.take_length]

theorem xorVec_left_cancel {a r r' : Vec} (hr : a.length = r.length) (hr' : a.length = r'.length)
    (hsame : xorVec a r = xorVec a r') : r = r' := by
  refine vec_ext (hr.symm.trans hr') fun i _ => ?_
  have hbit : bitAt (xorVec a r) i = bitAt (xorVec a r') i := by rw [hsame]
  rwa [bitAt_xorVec hr, bitAt_xorVec hr', Bool.xor_right_inj] at hbit

theorem xorVec_right_cancel {a a' r : Vec} (ha : a.length = r.length) (ha' : a'.length = r.length)
    (hsame : xorVec a r = xorVec a' r) : a = a' := by
  refine vec_ext (ha.trans ha'.symm) fun i _ => ?_
  have hbit : bitAt (xorVec a r) i = bitAt (xorVec a' r) i := by rw [hsame]
  rwa [bitAt_xorVec ha, bitAt_xorVec ha', Bool.xor_left_inj] at hbit

/-- Different states stay different over the same responses. -/
theorem foldl_misrStep_injective {n : Nat} {taps : Vec} (htaps : taps.length + 1 = n) {responses : List Vec}
    (hresponses : ∀ r ∈ responses, r.length = n) {x x' : Vec} (hx : x.length = n) (hx' : x'.length = n)
    (hsame : responses.foldl (misrStep n (buildMatrix n taps .shift)) x =
      responses.foldl (misrStep n (buildMatrix n taps .shift)) x') : x = x' := by
  induction responses generalizing x x' with
  | nil => exact hsame
  | cons r rest ih =>
    obtain ⟨hr, hrest⟩ := List.forall_mem_cons.mp hresponses
    have hstep := ih hrest (length_misrStep _ x hr) (length_misrStep _ x' hr) hsame
    have hlen : ∀ y, (matvec n (buildMatrix n taps .shift) y).length = r.length :=
      fun y => (length_matvec n _ y).trans hr.symm
    exact matvec_buildMatrix_injective htaps hx hx' (xorVec_right_cancel (hlen x) (hlen x') hstep)

/-- Settles O52: at the changed response the states part, and two different states stay different. -/
theorem signatureIsSensitive : Obligations.SignatureIsSensitive := by
  refine ⟨fun cfg taps seed before after r r' htaps hseed hall hne hsame => ?response,
    fun cfg taps seed seed' responses htaps hseed hseed' hall hne hsame => ?seed⟩
  case response =>
    simp only [List.mem_append, List.mem_cons, or_imp, forall_and, forall_eq] at hall
    obtain ⟨hbefore, hr, hr', hafter⟩ := hall
    rw [signature_compress htaps hseed (by simpa [or_imp, forall_and] using ⟨hbefore, hr, hafter⟩),
      signature_compress htaps hseed (by simpa [or_imp, forall_and] using ⟨hbefore, hr', hafter⟩), Option.some_inj,
      List.foldl_append, List.foldl_append, List.foldl_cons, List.foldl_cons] at hsame
    have hstep := foldl_misrStep_injective htaps hafter (length_misrStep _ _ hr) (length_misrStep _ _ hr') hsame
    exact hne (xorVec_left_cancel ((length_matvec _ _ _).trans hr.symm) ((length_matvec _ _ _).trans hr'.symm) hstep)
  case seed =>
    rw [signature_compress htaps hseed hall, signature_compress htaps hseed' hall, Option.some_inj] at hsame
    exact hne (foldl_misrStep_injective htaps hall hseed hseed' hsame)

/-! ### Collision (R103) -/

/-- Settles O53: the responses of V2, and two zero responses before its last. -/
theorem signaturesCanAlias : Obligations.SignaturesCanAlias :=
  ⟨[[false, false, false, false, true], [true, false, false, true, true], [true, false, false, true, true]],
    [zeroVec 5, zeroVec 5, [true, false, false, true, true]], by decide⟩

end Sys2Proof.Machine
end

section
/-!
PROOFS. Command sequences (30_encoding.md section 5): what a sequence of commands makes of a state, and that the core
makes the same of it when the host issues the sequence; then VEC and the three commands that consume a vector (R113),
and READOUT (R117).
-/

namespace Sys2Proof.Machine

/-! ### Executing a sequence -/

/-- The commands, executed one after the other from the first state, all answer, and leave the last state. -/
inductive Executes : State → List Instr → State → Prop
  | nil (s : State) : Executes s [] s
  | cons {s u t : State} {i : Instr} {is : List Instr} (hnext : exec i s = .next u) (hrest : Executes u is t) :
      Executes s (i :: is) t

/-- A step executes the first of the issued commands, and the rest are still to come. -/
theorem step_issue_cons {i : Instr} {s u : State} (hnext : exec i s = .next u) (is : List Instr) :
    step (s.issue (i :: is)) = .next (u.issue is) := by
  have hkeeps : (s.issue is).withInputs (u.issue is).inputs = s.issue is := by
    simp [State.withInputs, State.issue, exec_next_inputs hnext]
  calc step (s.issue (i :: is)) = executeAction (.command (encode i)) (s.issue is) := step_action rfl
    _ = exec i (s.issue is) := executeWord_of_decode_ok (decode_encode i) _
    _ = exec i (s.withInputs (u.issue is).inputs) := by rw [← hkeeps]; rfl
    _ = .next (u.issue is) := by rw [exec_withInputs, hnext]; rfl

/-- The core runs the sequence the host issues. -/
theorem run_issue {s t : State} {is : List Instr} (h : Executes s is t) : run is.length (s.issue is) = .next t := by
  induction h with
  | nil s => rfl
  | cons hnext _ ih => rw [List.length_cons, run_succ (step_issue_cons hnext _), ih]

theorem Executes.single {i : Instr} {s t : State} (hnext : exec i s = .next t) : Executes s [i] t :=
  .cons hnext (.nil t)

theorem Executes.append {s u t : State} {is js : List Instr} (hfirst : Executes s is u) (hsecond : Executes u js t) :
    Executes s (is ++ js) t := by
  induction hfirst with
  | nil => exact hsecond
  | cons hnext _ ih => exact .cons hnext (ih hsecond)

theorem executes_of_faulted {s : State} (hfaulted : s.ERR = true) (is : List Instr) : Executes s is s := by
  induction is with
  | nil => exact .nil s
  | cons i is ih => exact .cons (exec_of_faulted hfaulted i) ih

/-- After a fault the rest of a sequence changes nothing. -/
theorem Executes.append_faulted {s t : State} {is : List Instr} (h : Executes s is t) (hfaulted : t.ERR = true)
    (js : List Instr) : Executes s (is ++ js) t :=
  h.append (executes_of_faulted hfaulted js)

theorem Executes.inputs_eq {s t : State} {is : List Instr} (h : Executes s is t) : t.inputs = s.inputs := by
  induction h with
  | nil => rfl
  | cons hnext _ ih => rw [ih, exec_next_inputs hnext]

theorem Executes.cfg_eq {s t : State} {is : List Instr} (h : Executes s is t) : t.cfg = s.cfg := by
  induction h with
  | nil => rfl
  | cons hnext _ ih => rw [ih, exec_next_cfg hnext]

/-! ### VEC, and the commands that consume the vector (R62, R63, R113) -/

/-- The state with what VEC `v` leaves in the input shifter. -/
def State.loadVec (s : State) (v : Vec) : State := { s with IBUF := v.take s.n, ICNT := min v.length (s.n + 1) }

theorem loadVec_eq {s : State} {v x : Vec} {c : Nat} (hIBUF : v.take s.n = x) (hICNT : min v.length (s.n + 1) = c) :
    s.loadVec v = { s with IBUF := x, ICNT := c } := by
  rw [State.loadVec, hIBUF, hICNT]

theorem loadVec_nil (s : State) : s.loadVec [] = s.clearInput := loadVec_eq List.take_nil (Nat.zero_min _)

/-- Where the input shifter has room for all of `v`, it holds `v`. -/
theorem loadVec_of_le {s : State} {v : Vec} (hfit : v.length ≤ s.n) :
    s.loadVec v = { s with IBUF := v, ICNT := v.length } :=
  loadVec_eq (List.take_of_length_le hfit) (Nat.min_eq_left (Nat.le_succ_of_le hfit))

/-- The three cases of a bit arriving (R111). -/
theorem loadVec_shiftIn (s : State) (v : Vec) (b : Bit) : (s.loadVec v).shiftIn b = s.loadVec (v ++ [b]) := by
  obtain hroom | hfull | hover := lt_trichotomy v.length s.n
  · rw [loadVec_of_le hroom.le, State.shiftIn_of_lt b hroom, loadVec_of_le (by simpa using hroom), List.length_append,
      List.length_singleton]
  · rw [loadVec_of_le hfull.le, State.shiftIn_of_full b hfull]
    exact (loadVec_eq (List.take_left' hfull) (by simp [hfull])).symm
  · have hICNT : (s.loadVec v).n < (s.loadVec v).ICNT := Nat.lt_min.mpr ⟨hover, Nat.lt_succ_self _⟩
    rw [State.shiftIn_of_overfull b hICNT]
    exact (loadVec_eq (List.take_append_of_le_length hover.le) (by simp; omega)).symm

theorem executes_shins {s : State} (hrun : s.ERR = false) (v w : Vec) :
    Executes (s.loadVec v) (w.map Instr.shin) (s.loadVec (v ++ w)) := by
  induction w generalizing v with
  | nil => rw [List.append_nil]; exact .nil _
  | cons b w ih =>
    have hnext : exec (.shin b) (s.loadVec v) = .next (s.loadVec (v ++ [b])) := by
      rw [← loadVec_shiftIn]
      exact execShin_next.mpr (.inr ⟨hrun, rfl⟩)
    have hrest := ih (v ++ [b])
    rw [List.append_assoc] at hrest
    exact .cons hnext hrest

theorem executes_vec {s : State} (hrun : s.ERR = false) (v : Vec) : Executes s (vecCommands v) (s.loadVec v) := by
  have hclear : exec .iclr s = .next (s.loadVec []) := execIclr_next.mpr (.inr ⟨hrun, loadVec_nil s⟩)
  exact .cons hclear (executes_shins hrun [] v)

/-- The counter tells the length of the vector, as far as any length check asks. -/
theorem loadVec_ICNT_eq_iff {s : State} {v : Vec} {k : Nat} (hk : k ≤ s.n) :
    (s.loadVec v).ICNT = k ↔ v.length = k := by
  have hICNT : (s.loadVec v).ICNT = min v.length (s.n + 1) := rfl
  omega

section Consuming

variable {s : State} (hrun : s.ERR = false) {v : Vec}
include hrun

theorem executes_taps (hlen : v.length + 1 = s.n) : Executes s (tapsCommands v) (s.loadTaps v).clearInput := by
  refine (executes_vec hrun v).append (.single ?_)
  rw [loadVec_of_le (by omega)]
  exact execLdtaps_next.mpr (.inr ⟨hrun, .inr ⟨hlen, Nat.eq_sub_of_add_eq hlen, rfl⟩⟩)

theorem executes_taps_fault (hlen : v.length + 1 ≠ s.n) :
    Executes s (tapsCommands v) ((s.loadVec v).takeFault .tapsLen) := by
  refine (executes_vec hrun v).append (.single (execLdtaps_next.mpr (.inr ⟨hrun, .inl ⟨fun hICNT => hlen ?_, rfl⟩⟩)))
  have hwidth : 0 < s.n := s.cfg.n_pos
  have hlast : (s.loadVec v).ICNT = s.n - 1 := Nat.eq_sub_of_add_eq hICNT
  have hv := (loadVec_ICNT_eq_iff (Nat.sub_le _ _)).mp hlast
  omega

theorem executes_seed (hTV : s.TV = true) (hlen : v.length = s.n) :
    Executes s (seedCommands v) (s.startRun v).clearInput := by
  refine (executes_vec hrun v).append (.single ?_)
  rw [loadVec_of_le hlen.le]
  exact execLdseed_next.mpr (.inr ⟨hrun, .inr (.inr ⟨hTV, hlen, hlen, rfl⟩)⟩)

theorem executes_seed_fault (hTV : s.TV = true) (hlen : v.length ≠ s.n) :
    Executes s (seedCommands v) ((s.loadVec v).takeFault .seedLen) :=
  (executes_vec hrun v).append <| .single <| execLdseed_next.mpr <| .inr
    ⟨hrun, .inr (.inl ⟨hTV, mt (loadVec_ICNT_eq_iff le_rfl).mp hlen, rfl⟩)⟩

theorem executes_resp (hSV : s.SV = true) (hTM : s.TM = .shift) {m : Mat} {x : Vec} (hT : s.T = some m)
    (hS : s.S = some x) (hlen : v.length = s.n) :
    Executes s (respCommands v) (s.advance (misrStep s.n m x v)).clearInput := by
  refine (executes_vec hrun v).append (.single ?_)
  rw [loadVec_of_le hlen.le]
  exact execMstep_next.mpr (.inr ⟨hrun, .inr (.inr ⟨hSV, hTM, hlen, hlen, m, x, hT, hS, rfl⟩)⟩)

theorem executes_resp_fault (hSV : s.SV = true) (hTM : s.TM = .shift) (hlen : v.length ≠ s.n) :
    Executes s (respCommands v) ((s.loadVec v).takeFault .respLen) :=
  (executes_vec hrun v).append <| .single <| execMstep_next.mpr <| .inr
    ⟨hrun, .inr (.inl ⟨hSV, hTM, mt (loadVec_ICNT_eq_iff le_rfl).mp hlen, rfl⟩)⟩

end Consuming

/-- Settles O54: VEC, and each consuming command on a vector of the right and of a wrong length. -/
theorem vecLoadsInputShifter : Obligations.VecLoadsInputShifter := by
  intro s v hrun
  refine ⟨run_issue (executes_vec hrun v), fun hlen => run_issue (executes_taps hrun hlen),
    fun hlen => run_issue (executes_taps_fault hrun hlen), fun hTV hlen => run_issue (executes_seed hrun hTV hlen),
    fun hTV hlen => run_issue (executes_seed_fault hrun hTV hlen), fun hSV hTM hlen m x hT hS => ?response,
    fun hSV hTM hlen => run_issue (executes_resp_fault hrun hSV hTM hlen)⟩
  case response =>
    exact ⟨misrStep s.n m x v, run_issue (executes_resp hrun hSV hTM hT hS hlen), length_misrStep m x hlen,
      fun i hi => bitAt_xorVec_matvec m x hlen hi⟩

/-! ### READOUT (R64, R117) -/

/-- The state after OLOAD of `v` and `j` SHOUTs: the first `j` elements have left, and zeros have entered behind the
rest. -/
def State.emitted (s : State) (v : Vec) (j : Nat) : State :=
  { s with OBUF := some (v.drop j ++ zeroVec j), OCNT := s.n - j, SOUT := s.SOUT ++ v.take j }

theorem zeroVec_zero : zeroVec 0 = [] := rfl

theorem zeroVec_succ (k : Nat) : zeroVec (k + 1) = zeroVec k ++ [false] := List.replicate_succ'

/-- One more element leaves (R116). -/
theorem exec_shout_emitted {s : State} (hrun : s.ERR = false) {v : Vec} (hlen : v.length = s.n) {j : Nat}
    (hj : j < s.n) : exec .shout (s.emitted v j) = .next (s.emitted v (j + 1)) := by
  have hlt : j < v.length := hlen ▸ hj
  have hOBUF : (s.emitted v j).OBUF = some (v[j] :: (v.drop (j + 1) ++ zeroVec j)) := by
    rw [State.emitted, List.drop_eq_getElem_cons hlt, List.cons_append]
  have hOCNT : (s.emitted v j).OCNT ≠ 0 := Nat.sub_ne_zero_of_lt hj
  refine execShout_next.mpr (.inr ⟨hrun, .inr ⟨hOCNT, _, _, hOBUF, ?_⟩⟩)
  rw [State.emitted, zeroVec_succ, List.take_succ_eq_append_getElem hlt, ← List.append_assoc, ← List.append_assoc]
  rfl

theorem executes_oload_shouts {s : State} (hrun : s.ERR = false) (hSV : s.SV = true) {v : Vec} (hS : s.S = some v)
    (hlen : v.length = s.n) {j : Nat} (hj : j ≤ s.n) :
    Executes s (.oload :: List.replicate j .shout) (s.emitted v j) := by
  induction j with
  | zero =>
    refine .single (execOload_next.mpr (.inr ⟨hrun, .inr ⟨hSV, v, hS, ?_⟩⟩))
    simp [State.emitted, State.capture, zeroVec_zero]
  | succ j ih =>
    rw [List.replicate_succ', ← List.cons_append]
    exact (ih (Nat.le_of_succ_le hj)).append (.single (exec_shout_emitted hrun hlen hj))

/-- Settles O55: after N SHOUTs the output shifter is empty, so one more meets the sequence check. -/
theorem readoutEmitsState : Obligations.ReadoutEmitsState := by
  intro s v hrun hSV hS hlen
  have hreadout := executes_oload_shouts hrun hSV hS hlen le_rfl
  have hdone : s.emitted v s.n = { s with OBUF := some (zeroVec s.n), OCNT := 0, SOUT := s.SOUT ++ v } := by
    simp [State.emitted, ← hlen]
  rw [hdone] at hreadout
  refine ⟨run_issue hreadout, run_issue (hreadout.append (.single ?fault)), fun j hj => ?someShouts⟩
  case fault => exact execShout_next.mpr (.inr ⟨hrun, .inl ⟨rfl, rfl⟩⟩)
  case someShouts => exact ⟨s.emitted v j, run_issue (executes_oload_shouts hrun hSV hS hlen hj), rfl, rfl⟩

end Sys2Proof.Machine
end

section
/-!
PROOFS. GENERATE and COMPRESS (41_lfsr_generator.md section 5, 42_misr_analyzer.md section 2): the expansions build the
matrix, start a run and advance it to the history of `generate` or `compress`; a bad argument faults the command that
consumes it, and nothing changes after that (R89, R101, R141).
-/

namespace Sys2Proof.Machine

/-! ### A run in progress -/

/-- A run is in progress on the matrix `m`, built in `mode`, that stands at `x` after the history `h`. -/
structure InRun (s : State) (mode : Mode) (m : Mat) (x : Vec) (h : List Vec) : Prop where
  running : s.ERR = false
  valid : s.SV = true
  built_in : s.TM = mode
  matrix : s.T = some m
  state : s.S = some x
  history : s.HIST = h

theorem InRun.advance {s : State} {mode : Mode} {m : Mat} {x : Vec} {h : List Vec} (hs : InRun s mode m x h) (y : Vec) :
    InRun (s.advance y) mode m y (h ++ [y]) :=
  { hs with state := rfl, history := congrArg (· ++ [y]) hs.history }

theorem InRun.clearInput {s : State} {mode : Mode} {m : Mat} {x : Vec} {h : List Vec} (hs : InRun s mode m x h) :
    InRun s.clearInput mode m x h := { hs with }

theorem InRun.exec_lstep {s : State} {mode : Mode} {m : Mat} {x : Vec} {h : List Vec} (hs : InRun s mode m x h) :
    exec .lstep s = .next (s.advance (matvec s.n m x)) :=
  execLstep_next.mpr (.inr ⟨hs.running, .inr ⟨hs.valid, m, x, hs.matrix, hs.state, rfl⟩⟩)

/-- The run-level outcome (R141) of a run in progress is its history, and that of a faulted core is ConfigError. -/
theorem InRun.runOutcome {s : State} {mode : Mode} {m : Mat} {x : Vec} {h : List Vec} (hs : InRun s mode m x h) :
    s.runOutcome = .history h := by
  simp [State.runOutcome, hs.running, hs.history]

theorem runOutcome_of_faulted {s : State} (hfaulted : s.ERR = true) : s.runOutcome = .configError := by
  simp [State.runOutcome, hfaulted]

/-! ### Building the matrix and starting the run -/

/-- The state after TAPS and BUILD in the given mode. -/
def State.built (s : State) (taps : Vec) (mode : Mode) : State :=
  ((s.loadTaps taps).clearInput.setMode mode).installMatrix (buildMatrix s.n taps mode) mode

section Starting

variable {s : State} (hrun : s.ERR = false) {taps : Vec} (htaps : taps.length + 1 = s.n)
include hrun htaps

/-- BUILD in the mode the state holds. -/
theorem executes_taps_build : Executes s (tapsCommands taps ++ [.build]) (s.built taps s.MODE) :=
  (executes_taps hrun htaps).append <| .single <| execBuild_next.mpr <| .inr ⟨hrun, .inr ⟨rfl, taps, rfl, rfl⟩⟩

theorem executes_taps_ldmode_build (mode : Mode) :
    Executes s (tapsCommands taps ++ [.ldmode mode.token, .build]) (s.built taps mode) := by
  have hmode : exec (.ldmode mode.token) (s.loadTaps taps).clearInput =
      .next ((s.loadTaps taps).clearInput.setMode mode) :=
    execLdmode_next.mpr (.inr ⟨hrun, .inl ⟨mode, mode.ofToken_token, rfl⟩⟩)
  refine (executes_taps hrun htaps).append (.cons hmode (.single ?_))
  exact execBuild_next.mpr (.inr ⟨hrun, .inr ⟨rfl, taps, rfl, rfl⟩⟩)

theorem executes_bad_token {token : BitVec 4} (htoken : 2 ≤ token.toNat) :
    Executes s (tapsCommands taps ++ [.ldmode token, .build]) ((s.loadTaps taps).clearInput.takeFault .mode) := by
  have hfault : exec (.ldmode token) (s.loadTaps taps).clearInput =
      .next ((s.loadTaps taps).clearInput.takeFault .mode) :=
    execLdmode_next.mpr (.inr ⟨hrun, .inr ⟨Mode.ofToken_eq_none htoken, rfl⟩⟩)
  exact (executes_taps hrun htaps).append (.cons hfault (executes_of_faulted rfl [.build]))

end Starting

/-- SEED on a built matrix starts a run whose history is the seed. -/
theorem executes_seed_inRun {s : State} (hrun : s.ERR = false) (taps : Vec) (mode : Mode) {seed : Vec}
    (hseed : seed.length = s.n) :
    ∃ u, Executes (s.built taps mode) (seedCommands seed) u ∧
      InRun u mode (buildMatrix s.n taps mode) seed [seed] :=
  ⟨_, executes_seed (s := s.built taps mode) hrun rfl hseed, ⟨hrun, rfl, rfl, rfl, rfl, rfl⟩⟩

theorem executes_built_seed_fault {s : State} (hrun : s.ERR = false) (taps : Vec) (mode : Mode) {seed : Vec}
    (hseed : seed.length ≠ s.n) :
    Executes (s.built taps mode) (seedCommands seed) (((s.built taps mode).loadVec seed).takeFault .seedLen) :=
  executes_seed_fault (s := s.built taps mode) hrun rfl hseed

/-! ### GENERATE (R65, R89) -/

theorem lfsrHistory_succ (n : Nat) (m : Mat) (seed : Vec) (k : Nat) :
    lfsrHistory n m seed (k + 1) = lfsrHistory n m seed k ++ [lfsrState n m seed k] := by
  simp [lfsrHistory, List.range_succ]

theorem executes_lsteps {s : State} {mode : Mode} {m : Mat} {seed : Vec} (hs : InRun s mode m seed [seed]) (k : Nat) :
    ∃ t, Executes s (lstepsCommands k) t ∧
      InRun t mode m (lfsrState s.n m seed k) (lfsrHistory s.n m seed (k + 1)) := by
  induction k with
  | zero => exact ⟨s, .nil s, hs⟩
  | succ k ih =>
    obtain ⟨t, hexec, ht⟩ := ih
    have hn : t.n = s.n := congrArg Config.n hexec.cfg_eq
    refine ⟨t.advance (lfsrState s.n m seed (k + 1)), ?_, ?_⟩
    · rw [lstepsCommands, List.replicate_succ', lfsrState, ← hn]
      exact hexec.append (.single (hn ▸ ht.exec_lstep))
    · rw [lfsrHistory_succ _ _ _ (k + 1)]
      exact ht.advance _

theorem generateCommands_of_pos {count : Int} (hcount : 1 ≤ count) (taps seed : Vec) (token : BitVec 4) :
    generateCommands taps seed count token =
      tapsCommands taps ++ [.ldmode token, .build] ++ seedCommands seed ++ lstepsCommands (count - 1).toNat :=
  if_neg (by omega)

section Generating

variable {s : State} (hrun : s.ERR = false) {taps seed : Vec} {count : Int} (hcount : 1 ≤ count)
include hrun hcount

theorem executes_generate_taps_fault (htaps : taps.length + 1 ≠ s.n) (seed : Vec) (token : BitVec 4) :
    Executes s (generateCommands taps seed count token) ((s.loadVec taps).takeFault .tapsLen) :=
  generateCommands_of_pos hcount taps seed token ▸
    (((executes_taps_fault hrun htaps).append_faulted rfl _).append_faulted rfl _).append_faulted rfl _

theorem executes_generate_mode_fault (htaps : taps.length + 1 = s.n) {token : BitVec 4} (htoken : 2 ≤ token.toNat)
    (seed : Vec) :
    Executes s (generateCommands taps seed count token) ((s.loadTaps taps).clearInput.takeFault .mode) :=
  generateCommands_of_pos hcount taps seed token ▸
    ((executes_bad_token hrun htaps htoken).append_faulted rfl _).append_faulted rfl _

theorem executes_generate_seed_fault (htaps : taps.length + 1 = s.n) (mode : Mode) (hseed : seed.length ≠ s.n) :
    Executes s (generateCommands taps seed count mode.token)
      (((s.built taps mode).loadVec seed).takeFault .seedLen) :=
  generateCommands_of_pos hcount taps seed mode.token ▸
    ((executes_taps_ldmode_build hrun htaps mode).append
      (executes_built_seed_fault hrun taps mode hseed)).append_faulted rfl _

/-- With good arguments the expansion of GENERATE ends in a run with the history of `generate`. -/
theorem executes_generate (htaps : taps.length + 1 = s.n) (mode : Mode) (hseed : seed.length = s.n) :
    ∃ t, Executes s (generateCommands taps seed count mode.token) t ∧
      InRun t mode (buildMatrix s.n taps mode) (lfsrState s.n (buildMatrix s.n taps mode) seed (count.toNat - 1))
        (lfsrHistory s.n (buildMatrix s.n taps mode) seed count.toNat) := by
  obtain ⟨u, hseeded, hu⟩ := executes_seed_inRun hrun taps mode hseed
  have hstarted := (executes_taps_ldmode_build hrun htaps mode).append hseeded
  have hn : u.n = s.n := congrArg Config.n hstarted.cfg_eq
  obtain ⟨t, hsteps, ht⟩ := executes_lsteps hu (count - 1).toNat
  rw [hn, show (count - 1).toNat + 1 = count.toNat by omega, show (count - 1).toNat = count.toNat - 1 by omega] at ht
  exact ⟨t, generateCommands_of_pos hcount taps seed mode.token ▸ hstarted.append hsteps, ht⟩

end Generating

/-- Settles O56: by the first argument that is bad, in the order in which the commands consume them. -/
theorem generateIsRealised : Obligations.GenerateIsRealised := by
  intro s taps seed count token hrun hcount
  by_cases htaps : taps.length + 1 = s.n
  case neg =>
    have hexec := executes_generate_taps_fault hrun hcount htaps seed token
    exact ⟨_, run_issue hexec, hexec.inputs_eq, hexec.cfg_eq,
      (runOutcome_of_faulted rfl).trans (generate_eq_configError_iff.mpr (.inl htaps)).symm,
      fun h => absurd h htaps, fun _ => ⟨rfl, rfl⟩, fun h => absurd h htaps, fun h => absurd h htaps⟩
  by_cases htoken : 2 ≤ token.toNat
  case pos =>
    have hexec := executes_generate_mode_fault hrun hcount htaps htoken seed
    exact ⟨_, run_issue hexec, hexec.inputs_eq, hexec.cfg_eq,
      (runOutcome_of_faulted rfl).trans (generate_eq_configError_iff.mpr (.inr (.inr htoken))).symm,
      fun _ _ h => absurd h htoken.not_gt, fun h => absurd htaps h, fun _ _ => ⟨rfl, rfl⟩,
      fun _ h => absurd h htoken.not_gt⟩
  obtain ⟨mode, rfl⟩ := Mode.exists_token_of_lt_two (Nat.lt_of_not_le htoken)
  by_cases hseed : seed.length = s.n
  case neg =>
    have hexec := executes_generate_seed_fault hrun hcount htaps mode hseed
    exact ⟨_, run_issue hexec, hexec.inputs_eq, hexec.cfg_eq,
      (runOutcome_of_faulted rfl).trans (generate_eq_configError_iff.mpr (.inr (.inl hseed))).symm,
      fun _ h => absurd h hseed, fun h => absurd htaps h, fun _ h => absurd h htoken, fun _ _ _ => ⟨rfl, rfl⟩⟩
  case pos =>
    obtain ⟨t, hexec, ht⟩ := executes_generate hrun hcount htaps mode hseed
    refine ⟨t, run_issue hexec, hexec.inputs_eq, hexec.cfg_eq,
      ht.runOutcome.trans (generate_of_valid htaps hseed count mode).symm,
      fun _ _ _ => ⟨ht.running, ?length, ?last, ?first⟩, fun h => absurd htaps h, fun _ h => absurd h htoken,
      fun _ _ h => absurd hseed h⟩
    case length => rw [ht.history, length_lfsrHistory]
    case last =>
      rw [ht.history, ht.state, List.getLast?_eq_getElem?, length_lfsrHistory, lfsrHistory_getElem? _ _ (by omega)]
    case first => rw [ht.history, List.head?_eq_getElem?, lfsrHistory_getElem? _ _ (by omega), lfsrState]

/-! ### COMPRESS (R66, R101) -/

/-- `RESP` for each response in turn. -/
def respsCommands (responses : List Vec) : List Instr := (responses.map respCommands).flatten

theorem respsCommands_append (before after : List Vec) :
    respsCommands (before ++ after) = respsCommands before ++ respsCommands after := by
  simp [respsCommands]

theorem respsCommands_cons (r : Vec) (after : List Vec) :
    respsCommands (r :: after) = respCommands r ++ respsCommands after := rfl

/-- The states over the first responses do not depend on the later ones. -/
theorem misrState_concat_of_le {n i : Nat} (m : Mat) (seed : Vec) {before : List Vec} (r : Vec)
    (hi : i ≤ before.length) : misrState n m seed (before ++ [r]) i = misrState n m seed before i := by
  rw [misrState_eq_foldl_take m seed (by simp; omega), misrState_eq_foldl_take m seed hi,
    List.take_append_of_le_length hi]

/-- One response more is one state more in the history. -/
theorem misrHistory_concat (n : Nat) (m : Mat) (seed : Vec) (before : List Vec) (r : Vec) :
    misrHistory n m seed (before ++ [r]) =
      misrHistory n m seed before ++ [misrStep n m (before.foldl (misrStep n m) seed) r] := by
  have hlast : misrState n m seed (before ++ [r]) (before.length + 1) =
      misrStep n m (before.foldl (misrStep n m) seed) r := by
    rw [misrState_eq_foldl_take m seed (by simp), List.take_of_length_le (by simp), List.foldl_concat]
  rw [misrHistory, List.length_append, List.length_singleton, List.range_succ, List.map_append, List.map_singleton,
    hlast, misrHistory]
  congr 1
  refine List.map_congr_left fun i hi => misrState_concat_of_le m seed r ?_
  exact Nat.le_of_lt_succ (List.mem_range.mp hi)

/-- Good responses advance the run to the history of `compress`. -/
theorem executes_resps {s : State} {m : Mat} {seed : Vec} (hs : InRun s .shift m seed [seed]) {responses : List Vec}
    (hresponses : ∀ r ∈ responses, r.length = s.n) :
    ∃ t, Executes s (respsCommands responses) t ∧
      InRun t .shift m (responses.foldl (misrStep s.n m) seed) (misrHistory s.n m seed responses) := by
  induction responses using List.reverseRecOn with
  | nil => exact ⟨s, .nil s, hs⟩
  | append_singleton before r ih =>
    simp only [List.mem_append, List.mem_singleton, or_imp, forall_and, forall_eq] at hresponses
    obtain ⟨hbefore, hr⟩ := hresponses
    obtain ⟨t, hexec, ht⟩ := ih hbefore
    have hn : t.n = s.n := congrArg Config.n hexec.cfg_eq
    have hresp := executes_resp ht.running ht.valid ht.built_in ht.matrix ht.state (hr.trans hn.symm)
    rw [hn] at hresp
    refine ⟨_, respsCommands_append before [r] ▸ hexec.append (hresp.append (.nil _)), ?_⟩
    rw [List.foldl_concat, misrHistory_concat]
    exact (ht.advance _).clearInput

theorem exists_first_bad_response {n : Nat} {responses : List Vec} (hbad : ∃ r ∈ responses, r.length ≠ n) :
    ∃ before r after, responses = before ++ r :: after ∧ (∀ x ∈ before, x.length = n) ∧ r.length ≠ n := by
  have hfound : (responses.find? fun r => r.length != n).isSome := List.find?_isSome.mpr (by simpa using hbad)
  obtain ⟨r, hr⟩ := Option.isSome_iff_exists.mp hfound
  obtain ⟨hlen, before, after, hsplit, hbefore⟩ := List.find?_eq_some_iff_append.mp hr
  exact ⟨before, r, after, hsplit, by simpa using hbefore, by simpa using hlen⟩

/-- The first bad response faults its MSTEP, and nothing changes after that. -/
theorem executes_resps_fault {s : State} {m : Mat} {seed : Vec} (hs : InRun s .shift m seed [seed])
    {responses : List Vec} (hbad : ∃ r ∈ responses, r.length ≠ s.n) :
    ∃ t, Executes s (respsCommands responses) t ∧ t.ERR = true ∧ t.ERRCODE = ErrCode.respLen.number := by
  obtain ⟨before, r, after, rfl, hbefore, hr⟩ := exists_first_bad_response hbad
  obtain ⟨t, hexec, ht⟩ := executes_resps hs hbefore
  have hn : t.n = s.n := congrArg Config.n hexec.cfg_eq
  have hfault := executes_resp_fault ht.running ht.valid ht.built_in (fun h => hr (h.trans hn))
  rw [respsCommands_append, respsCommands_cons]
  exact ⟨_, hexec.append (hfault.append_faulted rfl _), rfl, rfl⟩

/-- COMPRESS without its LDMODE. -/
def shortCompressCommands (taps seed : Vec) (responses : List Vec) : List Instr :=
  tapsCommands taps ++ [.build] ++ seedCommands seed ++ respsCommands responses

/-- The two expansions of COMPRESS do the same from `s`: that with LDMODE, and in MODE SHIFT that without. -/
def Compresses (s : State) (taps seed : Vec) (responses : List Vec) (t : State) : Prop :=
  Executes s (compressCommands taps seed responses) t ∧
    (s.MODE = .shift → Executes s (shortCompressCommands taps seed responses) t)

section Compressing

variable {s t : State} (hrun : s.ERR = false) {taps seed : Vec} (responses : List Vec)
include hrun

theorem compresses_taps_fault (htaps : taps.length + 1 ≠ s.n) (seed : Vec) :
    Compresses s taps seed responses ((s.loadVec taps).takeFault .tapsLen) :=
  ⟨(((executes_taps_fault hrun htaps).append_faulted rfl _).append_faulted rfl _).append_faulted rfl _,
    fun _ => (((executes_taps_fault hrun htaps).append_faulted rfl _).append_faulted rfl _).append_faulted rfl _⟩

/-- Once the matrix is built in mode SHIFT the two expansions go on in one way. -/
theorem compresses_of_built (htaps : taps.length + 1 = s.n) {u : State}
    (hseeded : Executes (s.built taps .shift) (seedCommands seed) u) (hresps : Executes u (respsCommands responses) t) :
    Compresses s taps seed responses t := by
  refine ⟨((executes_taps_ldmode_build hrun htaps .shift).append hseeded).append hresps, fun hMODE => ?_⟩
  have hbuilt := executes_taps_build hrun htaps
  rw [hMODE] at hbuilt
  exact (hbuilt.append hseeded).append hresps

end Compressing

/-- Settles O57: by the first argument that is bad, in the order in which the commands consume them. -/
theorem compressIsRealised : Obligations.CompressIsRealised := by
  intro s taps seed responses hrun
  by_cases htaps : taps.length + 1 = s.n
  case neg =>
    obtain ⟨hexec, hshort⟩ := compresses_taps_fault hrun responses htaps seed
    exact ⟨_, run_issue hexec, fun hMODE => run_issue (hshort hMODE), hexec.inputs_eq, hexec.cfg_eq,
      (runOutcome_of_faulted rfl).trans (compress_eq_configError_iff.mpr (.inl htaps)).symm,
      fun h => absurd h htaps, fun _ => ⟨rfl, rfl⟩, fun h => absurd h htaps, fun h => absurd h htaps⟩
  by_cases hseed : seed.length = s.n
  case neg =>
    obtain ⟨hexec, hshort⟩ := compresses_of_built hrun responses htaps
      (executes_built_seed_fault hrun taps .shift hseed) (executes_of_faulted rfl _)
    exact ⟨_, run_issue hexec, fun hMODE => run_issue (hshort hMODE), hexec.inputs_eq, hexec.cfg_eq,
      (runOutcome_of_faulted rfl).trans (compress_eq_configError_iff.mpr (.inr (.inl hseed))).symm,
      fun _ h => absurd h hseed, fun h => absurd htaps h, fun _ _ => ⟨rfl, rfl⟩, fun _ h => absurd h hseed⟩
  obtain ⟨u, hseeded, hu⟩ := executes_seed_inRun hrun taps .shift hseed
  have hn : u.n = s.n := congrArg Config.n hseeded.cfg_eq
  by_cases hresponses : ∀ r ∈ responses, r.length = s.n
  case pos =>
    obtain ⟨t, hresps, ht⟩ := executes_resps hu (hn.symm ▸ hresponses)
    rw [hn] at ht
    obtain ⟨hexec, hshort⟩ := compresses_of_built hrun responses htaps hseeded hresps
    refine ⟨t, run_issue hexec, fun hMODE => run_issue (hshort hMODE), hexec.inputs_eq, hexec.cfg_eq,
      ht.runOutcome.trans (compress_of_valid htaps hseed hresponses).symm,
      fun _ _ _ => ⟨ht.running, ?length, ?signature⟩, fun h => absurd htaps h, fun _ h => absurd hseed h,
      fun _ _ ⟨r, hr, hbad⟩ => absurd (hresponses r hr) hbad⟩
    case length => rw [ht.history, length_misrHistory]
    case signature => rw [ht.state, signature_compress htaps hseed hresponses]
  case neg =>
    have hbad : ∃ r ∈ responses, r.length ≠ s.n := by simpa using hresponses
    obtain ⟨t, hresps, hERR, hcode⟩ := executes_resps_fault hu (hn.symm ▸ hbad)
    obtain ⟨hexec, hshort⟩ := compresses_of_built hrun responses htaps hseeded hresps
    exact ⟨t, run_issue hexec, fun hMODE => run_issue (hshort hMODE), hexec.inputs_eq, hexec.cfg_eq,
      (runOutcome_of_faulted hERR).trans (compress_eq_configError_iff.mpr (.inr (.inr hbad))).symm,
      fun _ _ h => absurd h hresponses, fun h => absurd htaps h, fun _ h => absurd hseed h, fun _ _ _ => ⟨hERR, hcode⟩⟩

end Sys2Proof.Machine
end
